-- ==== Sys2Proof/Word.lean ====
section
/-! DEFINITION. The word types of the GM4104: what the manual treats as bits is a bit vector, what it
counts is a natural number, what it numbers is a bounded index. -/

namespace Sys2Proof

/-- One byte of a payload (spec/01, R1). -/
abbrev Byte := BitVec 8

/-- A 32-bit word of the aperture, of a configuration space or of the alert data. -/
abbrev Word := BitVec 32

/-- A value of the timebase, a 32-bit count of microseconds (spec/03, R51). -/
abbrev Time := BitVec 32

/-- A 64-bit memory address (spec/01, R1). -/
abbrev Addr := BitVec 64

/-- Downstream slot 0, 1, 2 or 3 (spec/00, Table 3). -/
abbrev SlotId := Fin 4

/-- The index of an ORT entry, which is the bridge tag (spec/02, R25). -/
abbrev BridgeTag := Fin 256

/-- The tag under which a requester expects its completion.
The width is that of the tag field of READ-ENTRY word 10 (spec/10, R195). DEDUCED (log 10). -/
abbrev Tag := BitVec 16

/-- The number of a shadow record in the pool (spec/07, R145). -/
abbrev RecordId := Fin 384

/-- The number of a cell of the aperture (spec/10, R188). -/
abbrev CellId := Fin 16

/-- The four slots in ascending order. -/
def allSlots : List SlotId := [0, 1, 2, 3]

end Sys2Proof
end

