-- ==== Sys2Proof/Config.lean ====
section
/-! DEFINITION. What the part fixes (capacities, fixed filter times, header words) and the one free value
the manual leaves open as a value. -/

namespace Sys2Proof

/-- Room of the Upstream Ingress Queue (spec/01, R11). -/
def Config.upstreamIngressRoom : Nat := 64

/-- Room of each Card Ingress Queue (spec/01, R22). -/
def Config.cardIngressRoom : Nat := 32

/-- Room of each Slot Egress FIFO (spec/01, R23). -/
def Config.egressRoom : Nat := 32

/-- Room of the bridge-origin queue (spec/08, R166). -/
def Config.bridgeQueueRoom : Nat := 64

/-- Room of each slot's upstream queue (spec/08, R167). -/
def Config.upstreamQueueRoom : Nat := 32

/-- How many entries the ORT holds (spec/02, R25). -/
def Config.ortEntries : Nat := 256

/-- How many grant times the inrush history keeps (spec/05, R120). -/
def Config.inrushDepth : Nat := 4

/-- FREE VALUE. The requester tag of an alert write: the write is posted, is answered by nobody, and
spec/08 R174 gives it no tag. It is read at the running number of free values drawn, so each write has
a tag of its own of which nothing is known (log 9). -/
opaque Config.alertWriteTag : Nat → Tag

end Sys2Proof
end

