-- ==== Sys2Proof/Syntax.lean ====
section
/-! DEFINITION. The transactions of spec/01 (R1, R2) and the commands of the block: one constructor of
`Instr` for each row of spec/opcode_table.json. -/

namespace Sys2Proof

/-- The identity of a requester: bus, device and function (spec/10, R186). -/
structure ReqId where
  bus      : BitVec 8
  device   : BitVec 5
  function : BitVec 3
  deriving DecidableEq, Repr

/-- A configuration target: bus, device, function and dword offset (spec/01, R1). -/
structure CfgTarget where
  bus      : BitVec 8
  device   : BitVec 5
  function : BitVec 3
  offset   : BitVec 12
  deriving DecidableEq, Repr

/-- Severity of an ERROR message (spec/01, R1). -/
inductive Severity where
  | correctable
  | nonfatal
  | fatal
  deriving DecidableEq, Repr

/-- A MESSAGE is an ERROR with a severity, or opaque: the bridge does not look inside it (spec/01, R1). -/
inductive Message where
  | error (severity : Severity)
  | sealed (contents : List Byte)
  deriving DecidableEq, Repr

/-- The kinds of request of Table 1-1 with their fields, and a request of a kind not in the table, which
is posted or non-posted as the link marks it (spec/01, R1, R3). -/
inductive ReqBody where
  | memRead (addr : Addr) (length : Nat) (firstBe lastBe : BitVec 4)
  | memWrite (addr : Addr) (length : Nat) (firstBe lastBe : BitVec 4) (payload : List Byte)
  | cfgRead (target : CfgTarget) (length : Nat) (be : BitVec 4)
  | cfgWrite (target : CfgTarget) (length : Nat) (be : BitVec 4) (payload : List Byte)
  | message (m : Message)
  | unknown (posted : Bool)
  deriving DecidableEq, Repr

/-- A request: requester ID, requester tag and the rest (spec/01, R1). -/
structure Request where
  id   : ReqId
  tag  : Tag
  body : ReqBody
  deriving DecidableEq, Repr

/-- Status of a completion (spec/01, R2). -/
inductive Status where
  | success
  | unsupported
  | aborted
  | notReady
  deriving DecidableEq, Repr

/-- A completion with the fields of Table 1-2; absent data is the empty list (spec/01, R2). -/
structure Completion where
  status    : Status
  id        : ReqId
  tag       : Tag
  remaining : Nat
  lower     : BitVec 7
  data      : List Byte
  deriving DecidableEq, Repr

/-- What a link delivers or takes whole. -/
inductive Transaction where
  | request (r : Request)
  | completion (c : Completion)
  deriving DecidableEq, Repr

/-- The three sideband inputs of a slot (spec/05, Table 5-1). -/
inductive InputLine where
  | prsnt
  | pwrgd
  | attn
  deriving DecidableEq, Repr

/-- An ingress queue: the upstream port's or a slot's (spec/01, R3). -/
inductive Side where
  | upstream
  | slot (n : SlotId)
  deriving DecidableEq, Repr

/-- The commands of the block, one per row of spec/opcode_table.json, in the table's order. -/
inductive Instr where
  | powerOnReset
  | upstreamReset
  | hostTransactionAccept (t : Transaction)
  | upstreamHeadForward
  | upstreamHeadNotAdmitted
  | unroutedRequest
  | malformedRequest (side : Side)
  | hostCompletionMatch
  | mgmtCfgRead
  | mgmtCfgWrite
  | apertureRead
  | cellSubmit
  | apertureWrite
  | cardTransactionAccept (n : SlotId) (t : Transaction)
  | cardHeadForward (n : SlotId)
  | cardHeadRefused (n : SlotId)
  | cardHeadMessage (n : SlotId)
  | cardHeadNotAdmitted (n : SlotId)
  | cardCompletionMatch (n : SlotId)
  | egressFifoSend (n : SlotId)
  | arbiterGrant
  | standInHandOn
  | directItemHandOn
  | directItemTimeout
  | deadlineExpiry (i : BridgeTag)
  | holdExpiry (i : BridgeTag)
  | quietDecrement (n : SlotId)
  | headStall
  | alertWriteForm
  | inputPinChange (n : SlotId) (line : InputLine) (high : Bool)
  | debouncedPresence (n : SlotId)
  | debouncedPresenceLoss (n : SlotId)
  | attentionPress (n : SlotId)
  | attentionRelease (n : SlotId)
  | powerGoodTaken (n : SlotId)
  | powerGoodLoss (n : SlotId)
  | powerGrant
  | inrushHistoryExpiry
  | sequenceComplete (n : SlotId)
  | powerGoodTimeout (n : SlotId)
  | warmHoldEnd (n : SlotId)
  | offTimeEnd (n : SlotId)
  | indBlinkToggle (n : SlotId)
  | linkUp (n : SlotId)
  | linkDown (n : SlotId)
  | linkTimeout (n : SlotId)
  | scriptRequestSend
  | scriptIssueTimeout
  | scriptRetryResume
  | scriptWaitEnd
  | replayWriteSend (n : SlotId)
  | replayIssueTimeout (n : SlotId)
  | replayRetryResume (n : SlotId)
  | setWindow
  | clearWindow
  | setBusRange
  | setSlotTiming
  | setSlotPolicy
  | setPartPolicy
  | setSideband
  | loadScriptStep
  | setScript
  | setExclusion
  | powerOn
  | powerOff
  | fence
  | recover
  | readSlot
  | readEntry
  | readShadow
  | deleteShadowRecord
  | clearShadow
  | clearFaults
  | clearAlerts
  | readErrorLog
  | clearErrorLog
  | reclaimLost
  | badOpcode
  | unwatchedPwrgdChange (n : SlotId)
  deriving DecidableEq, Repr

end Sys2Proof
end

