-- ==== Sys2Proof/WellFormed.lean ====
section
/-! DEFINITION. Which commands can occur: a transaction arrives whole (spec/00), so a write carries as many
payload bytes as its length says (spec/01, R1) and a completion's byte-count-remaining lies in the range of
Table 1-2 (spec/01, R2). A request that fits no row of Table 1-1 is well-formed here: it can arrive, and
spec/01 R3 says what becomes of it. -/

namespace Sys2Proof

/-- The payload of a write is as long as the request (spec/01, R1). -/
def ReqBody.wholePayload : ReqBody → Bool
  | .memWrite _ length _ _ payload => payload.length == length
  | .cfgWrite _ length _ payload => payload.length == length
  | .memRead _ _ _ _ => true
  | .cfgRead _ _ _ => true
  | .message _ => true
  | .unknown _ => true

/-- Byte-count-remaining lies in 4 to 4096 (spec/01, R2). -/
def Completion.remainingInRange (c : Completion) : Bool :=
  decide (4 ≤ c.remaining) && decide (c.remaining ≤ 4096)

/-- A transaction as a link delivers it. -/
def Transaction.wellFormed : Transaction → Bool
  | .request r => r.body.wholePayload
  | .completion c => c.remainingInRange

/-- A command that can occur. Slots, ORT indexes and lines are in range by their types; only a delivered
transaction has something to check. -/
def Instr.wellFormed : Instr → Bool
  | .hostTransactionAccept t => t.wellFormed
  | .cardTransactionAccept _ t => t.wellFormed
  | _ => true

end Sys2Proof
end

