-- ==== Sys2Proof/Machine/State.lean ====
section
/-! DEFINITION. The state of the GM4104 as plain data: what the host has loaded (`Settings`), the running
state of the bridge (`Bridge`), the management unit's cells (`Mgmt`), and the queue of commands. -/

namespace Sys2Proof.Machine

open Sys2Proof

/-! ### Why a step could stop -/

/-- No command of the GM4104 stops the part: the spec answers, discards, counts or fences. So there is no
fault, and no meaning raises one. -/
inductive Fault where
  deriving DecidableEq, Repr

/-- Why a command has no meaning. -/
inductive Refusal where
  /-- Raised by an arm of `exec` whose command has no meaning yet; safe: nothing is claimed of it.
  Every command has its meaning, so no arm raises it. -/
  | notModelled (mnemonic : String)
  deriving DecidableEq, Repr

/-! ### Settings (spec/00, Table 5) -/

/-- What is answered in place of a window's owner (spec/01, R5). -/
inductive FenceAnswer where
  | ones
  | error
  deriving DecidableEq, Repr

/-- Access of a GRANT window (spec/01, Table 1-3). -/
inductive Access where
  | readWrite
  | readOnly
  | writeOnly
  | closed
  deriving DecidableEq, Repr

/-- Kind of a window, with the field of that kind (spec/01, Table 1-3). -/
inductive WindowKind where
  | decode (answer : FenceAnswer)
  | grant (access : Access)
  deriving DecidableEq, Repr

/-- A valid entry of the window table (spec/01, R5). -/
structure Window where
  owner : SlotId
  base  : Addr
  limit : Addr
  kind  : WindowKind
  deriving DecidableEq, Repr

/-- A slot's card bus range (spec/01, R7). -/
structure BusRange where
  first : BitVec 8
  last  : BitVec 8
  valid : Bool
  deriving DecidableEq, Repr

/-- What SET-SLOT-TIMING loads (spec/10, R191); times in milliseconds. -/
structure SlotTiming where
  budgetCode       : Nat
  threshold        : Nat
  resetHold        : Nat
  linkTimeout      : Nat
  powerGoodTimeout : Nat
  offTime          : Nat
  deriving DecidableEq, Repr

/-- What a slot's card messages meet (spec/01, R20). -/
inductive MessagePolicy where
  | forward
  | absorb
  deriving DecidableEq, Repr

/-- What the replay does with a set INCOMPLETE flag (spec/07, R154). -/
inductive ShadowPolicy where
  | proceed
  | fail
  deriving DecidableEq, Repr

/-- What PWREN does on parking by an attempt failure (spec/04, R98). -/
inductive ParkPower where
  | off
  | keep
  deriving DecidableEq, Repr

/-- What SET-SLOT-POLICY loads (spec/10, R191). -/
structure SlotPolicy where
  autoRecover      : Bool
  maxAttempts      : Nat
  escalation       : Nat
  fenceOnViolation : Bool
  configAnswer     : FenceAnswer
  messagePolicy    : MessagePolicy
  captureWhenAway  : Bool
  shadowPolicy     : ShadowPolicy
  parkPower        : ParkPower
  quota            : Nat
  shadowLimit      : Nat
  deriving DecidableEq, Repr

/-- The six inversion settings of a slot's lines (spec/05, R106). -/
structure Inversions where
  prsnt : Bool
  pwrgd : Bool
  attn  : Bool
  pwren : Bool
  srst  : Bool
  ind   : Bool
  deriving DecidableEq, Repr

/-- Compare of a READ-EXPECT step (spec/06, Table 6-3). -/
inductive Compare where
  | equal
  | notEqual
  deriving DecidableEq, Repr

/-- One step of a script (spec/06, Table 6-3). -/
inductive ScriptStep where
  | readExpect (function : BitVec 3) (offset : BitVec 12) (mask value : Word) (compare : Compare)
  | write (function : BitVec 3) (offset : BitVec 12) (be : BitVec 4) (value : Word)
  | echo (function : BitVec 3) (offset : BitVec 12) (mask pattern : Word)
  | wait (duration : Nat)
  deriving DecidableEq, Repr

/-- A slot's script: twelve positions and three settings (spec/06, R132). -/
structure Script where
  steps         : Vector ScriptStep 12
  length        : Nat
  retryLimit    : Nat
  retryInterval : Nat
  deriving DecidableEq, Repr

/-- One exclusion range of a slot's shadow (spec/07, R153). -/
structure Exclusion where
  first : BitVec 12
  last  : BitVec 12
  valid : Bool
  deriving DecidableEq, Repr

/-- Everything the host has loaded for one slot. -/
structure SlotSettings where
  busRange   : BusRange
  timing     : SlotTiming
  policy     : SlotPolicy
  inversions : Inversions
  script     : Script
  exclusions : Vector Exclusion 4
  deriving DecidableEq, Repr

/-- The part policies other than the alert settings (spec/10, R191); times in milliseconds. -/
structure PartPolicy where
  pieceSize      : Nat
  inrushCount    : Nat
  inrushWindow   : Nat
  burst          : Nat
  quietInterval  : Nat
  stallLimit     : Nat
  hostAnswerCode : Nat
  holdLimit      : Nat
  deriving DecidableEq, Repr

/-- The alert settings (spec/08, R172); bit c − 1 of `slotEnables` enables the kind of code c, and bit
c − 16 of `partEnables` the part kind of code c, as SET-PART-POLICY word 3 carries them. -/
structure AlertSettings where
  address     : Addr
  data        : Word
  slotEnables : BitVec 8
  partEnables : BitVec 2
  deriving DecidableEq, Repr

/-- The writable part of the management function: bus number, memory decode enable and bits 12 to 63 of
the aperture base (spec/10, R185, R186). -/
structure Header where
  busNumber : Option (BitVec 8)
  memDecode : Bool
  basePage  : BitVec 52
  deriving DecidableEq, Repr

/-- Everything that only the host's commands and the resets change. -/
structure Settings where
  header  : Header
  windows : Vector (Option Window) 48
  slots   : Vector SlotSettings 4
  part    : PartPolicy
  alert   : AlertSettings
  deriving DecidableEq, Repr

/-! ### Queued transactions and their routes (spec/01, R8) -/

/-- Route of a host transaction; a completion is matched by its tag (spec/01, Table 1-4). -/
inductive HostRoute where
  | slot (n : SlotId) (answer : Option FenceAnswer)
  | management
  | unrouted
  | byTag
  deriving DecidableEq, Repr

/-- A transaction in the Upstream Ingress Queue with its route. -/
structure HostQueued where
  txn   : Transaction
  route : HostRoute
  deriving DecidableEq, Repr

/-- Destination of a card request (spec/01, R17). -/
inductive CardDest where
  | upstream
  | peer (m : SlotId) (answer : FenceAnswer)
  deriving DecidableEq, Repr

/-- Route of a card transaction: destination and grant outcome, or none for messages and completions. -/
inductive CardRoute where
  | checked (dest : CardDest) (granted : Bool)
  | unchecked
  deriving DecidableEq, Repr

/-- A transaction in a Card Ingress Queue with its route. -/
structure CardQueued where
  txn   : Transaction
  route : CardRoute
  deriving DecidableEq, Repr

/-- Who put a transaction into a Slot Egress FIFO, which decides when it may be sent (spec/01, R23). -/
inductive EgressClass where
  | traffic
  | bridgeRequest
  | standIn
  deriving DecidableEq, Repr

/-- A transaction in a Slot Egress FIFO. -/
structure EgressTxn where
  source : EgressClass
  txn    : Transaction
  deriving DecidableEq, Repr

/-- The stall record (spec/01, R24). -/
structure Stall where
  slot  : SlotId
  start : Time
  deriving DecidableEq, Repr

/-! ### The ORT (spec/02) -/

/-- The identity under which a requester expects its completion (spec/02, Table 2-1). -/
structure Requester where
  id  : ReqId
  tag : Tag
  deriving DecidableEq, Repr

/-- Bridge purpose (spec/02, Table 2-1). -/
inductive Purpose where
  | script (step : Nat)
  | replay (position : Nat)
  deriving DecidableEq, Repr

/-- Origin of an entry, with the original requester where there is one. -/
inductive Origin where
  | upstream (requester : Requester)
  | slot (n : SlotId) (requester : Requester)
  | bridge (purpose : Purpose)
  deriving DecidableEq, Repr

/-- Kind, address or configuration target, length and bytes delivered of an entry. -/
inductive Asked where
  | memRead (addr : Addr) (length delivered : Nat)
  | cfgRead (target : CfgTarget) (be : BitVec 4)
  | cfgWrite (target : CfgTarget) (be : BitVec 4)
  deriving DecidableEq, Repr

/-- State of an IN-USE entry with the fields of that state (spec/02, R26): a STOOD-IN entry's work item is
LISTED or LEFT, and its release may be pending. -/
inductive Phase where
  | opened (deadline : Time)
  | stoodIn (hold : Time) (listed releasePending : Bool)
  | orphaned (hold : Time)
  deriving DecidableEq, Repr

/-- An ORT entry record (spec/02, Table 2-1). `Side` names the target: upstream or a slot. -/
structure EntryRecord where
  phase       : Phase
  origin      : Origin
  target      : Side
  asked       : Asked
  allocatedAt : Time
  answer      : Option FenceAnswer
  deriving DecidableEq, Repr

/-- The allocation map's status of an index with its account slot; the record exists only IN-USE
(spec/02, R25). -/
inductive EntryStatus where
  | free
  | inUse (account : SlotId) (record : EntryRecord)
  | lost (account : SlotId)
  deriving DecidableEq, Repr

/-- One index of the ORT: its status, and the bad bits of its stored record (`flips`) and of its storage
cells (`stuck`), by which a read is CLEAN, CORRECTED or UNCORRECTABLE (spec/09, R176 to R178; log 4). -/
structure OrtWord where
  status : EntryStatus
  flips  : Nat
  stuck  : Nat
  deriving DecidableEq, Repr

/-! ### The stand-in generator (spec/03) -/

/-- Destination of an entry item: the host, behind what the target slot's upstream queue held (drain
count), or a card (spec/03, Table 3-3). -/
inductive ItemDest where
  | host (source : SlotId) (drain : Nat)
  | card (a : SlotId)
  deriving DecidableEq, Repr

/-- An item begun with SUCCESS pieces: whom it answers, the next position, the end, and the slot its
pieces are counted in (spec/03, R65, R73). -/
structure Begun where
  requester : Requester
  next      : Nat
  stop      : Nat
  counted   : SlotId
  deriving DecidableEq, Repr

/-- An entry item of the Stand-in Work List (spec/03, R61). -/
structure EntryItem where
  entry : BridgeTag
  dest  : ItemDest
  begun : Option Begun
  deriving DecidableEq, Repr

/-- Whom the direct item answers (spec/03, R62). -/
inductive ReplyTo where
  | host
  | card (a : SlotId)
  deriving DecidableEq, Repr

/-- What a stand-in says: SUCCESS pieces of 0xFF bytes, SUCCESS with 0xFFFFFFFF, or one completion without
data (spec/03, R68, R69). -/
inductive StandIn where
  | pieces
  | cfgOnes
  | single (status : Status)
  deriving DecidableEq, Repr

/-- The occupied direct item: the request, the answer, the next position of an answer in pieces, the slot
its completions are counted in, and when it became occupied (spec/03, R62, R73). -/
structure DirectItem where
  request : Request
  reply   : ReplyTo
  answer  : StandIn
  next    : Nat
  counted : Option SlotId
  since   : Time
  deriving DecidableEq, Repr

/-! ### The sequencers, the sideband controller and the slot ports (spec/04, spec/05, spec/06) -/

/-- The nine fence triggers, which are also the first fence reasons, in the order of Table 4-7. -/
inductive Trigger where
  | suspicion
  | commanded
  | linkLost
  | cardFatal
  | completionFault
  | violation
  | headStall
  | powerLost
  | presenceLost
  deriving DecidableEq, Repr

/-- The park reasons in the order of Table 4-7. -/
inductive ParkReason where
  | linkTimeout
  | qualifyFail
  | restoreFail
  | shadowIncomplete
  | linkLost
  | cardFatal
  | completionFault
  | headStall
  | powerFault
  | powerLost
  deriving DecidableEq, Repr

/-- A slot's fault record (spec/04, R102). -/
structure FaultRecord where
  fenceReason    : Option Trigger
  parkReason     : Option ParkReason
  expiries       : Nat
  standInPieces  : Nat
  discarded      : Nat
  violations     : Nat
  unexpected     : Nat
  late           : Nat
  nonfatal       : Nat
  correctable    : Nat
  fenceEvents    : Nat
  recoveries     : Nat
  deriving DecidableEq, Repr

/-- Power sequence record of a slot in POWERING (spec/05, Table 5-2). -/
inductive PowerSeq where
  | queued
  | awaitPwrgd (grant : Time)
  | hold (grant powerGood : Time)
  deriving DecidableEq, Repr

/-- Reset phase (spec/04, R75). -/
inductive ResetPhase where
  | warmHold
  | offWait
  deriving DecidableEq, Repr

/-- The write copy of a replay, with the position at which its record was taken (spec/07, Table 7-4, R156). -/
structure WriteCopy where
  position : Nat
  function : BitVec 3
  offset   : BitVec 12
  union    : BitVec 4
  value    : Word
  deriving DecidableEq, Repr

/-- What a request sender (the engine or a replay) is doing with its request (spec/06, Table 6-2;
spec/07, Table 7-4). -/
inductive Activity where
  | issueWait (ready : Time)
  | awaitAnswer (tag : BridgeTag)
  | retryWait (resume : Time)
  | pause (resume : Time)
  deriving DecidableEq, Repr

/-- An active replay (spec/07, R155). -/
structure Replay where
  cursor        : Nat
  activity      : Activity
  copy          : Option WriteCopy
  retryCount    : Nat
  retryLimit    : Nat
  retryInterval : Nat
  sent          : Nat
  deriving DecidableEq, Repr

/-- The ten slot states (spec/00, Table 2), each with the fields present in it: the power sequence record,
the reset phase with its start, the link start, the active replay. -/
inductive Stage where
  | empty
  | off
  | powering (seq : PowerSeq)
  | resetting (phase : ResetPhase) (start : Time)
  | linking (start : Time)
  | qualifying
  | restoring (replay : Replay)
  | admitted
  | fenced
  | parked
  deriving DecidableEq, Repr

/-- One value for each sideband input. -/
structure PerInput (α : Type) where
  prsnt : α
  pwrgd : α
  attn  : α
  deriving DecidableEq, Repr

/-- The logical level of IND and, while it blinks, the start of the present half (spec/04, R105). -/
structure Indicator where
  lit   : Bool
  since : Option Time
  deriving DecidableEq, Repr

/-- A record of a slot's shadow list: number and key (spec/07, R145). -/
structure ShadowKey where
  number   : RecordId
  function : BitVec 3
  offset   : BitVec 12
  deriving DecidableEq, Repr

/-- Cause of a failed request of the engine or a replay (spec/06, Table 6-5; spec/07, Table 7-5). -/
inductive ReplayCause where
  | aborted
  | unsupported
  | retriesExhausted
  | expired
  | incomplete
  deriving DecidableEq, Repr

/-- Replay result (spec/07, Table 7-5): the failed write's key is absent for the cause INCOMPLETE. -/
inductive ReplayResult where
  | done (sent : Nat)
  | failed (cause : ReplayCause) (key : Option (BitVec 3 × BitVec 12)) (sent : Nat)
  deriving DecidableEq, Repr

/-- Cause of a step failure (spec/06, Table 6-5). -/
inductive StepCause where
  | mismatch
  | aborted
  | unsupported
  | retriesExhausted
  | expired
  deriving DecidableEq, Repr

/-- Qualification result record (spec/06, Table 6-6). -/
inductive QualResult where
  | pass
  | fail (step : Nat) (cause : StepCause) (observed : Option Word)
  deriving DecidableEq, Repr

/-- The running state of one slot. Logical SRST is computed from the stage (Table 4-2). -/
structure Slot where
  stage        : Stage
  attempts     : Nat
  restore      : Bool
  fault        : FaultRecord
  suspicion    : Nat
  quietRef     : Time
  pwren        : Bool
  watch        : Bool
  ind          : Indicator
  pins         : PerInput Bool
  filtered     : PerInput Bool
  changeStart  : PerInput (Option Time)
  linkUp       : Bool
  egress       : List EgressTxn
  ingress      : List CardQueued
  upQueue      : List Transaction
  shadow       : List ShadowKey
  incomplete   : Bool
  replayResult : Option ReplayResult
  qualResult   : Option QualResult
  flags        : BitVec 8
  cardOut      : Option Transaction
  deriving DecidableEq, Repr

/-! ### Engine, shadow, alerts and integrity checker (spec/06 to spec/09) -/

/-- Half of an ECHO step (spec/06, R139). -/
inductive Half where
  | write
  | read
  deriving DecidableEq, Repr

/-- The run of the served slot (spec/06, Table 6-2). -/
structure Run where
  slot       : SlotId
  script     : Script
  index      : Nat
  half       : Option Half
  activity   : Activity
  retryCount : Nat
  deriving DecidableEq, Repr

/-- The protected contents of a shadow record with its bad bits (spec/07, R145; spec/09, R176; log 4). -/
structure ShadowWord where
  union : BitVec 4
  value : Word
  flips : Nat
  stuck : Nat
  deriving DecidableEq, Repr

/-- A pending note (spec/07, R149). -/
structure Note where
  tag      : BridgeTag
  slot     : SlotId
  bus      : BitVec 8
  function : BitVec 3
  offset   : BitVec 12
  be       : BitVec 4
  payload  : Word
  deriving DecidableEq, Repr

/-- The eight slot alert kinds in the order of their codes 1 to 8 (spec/08, Table 8-1). -/
inductive SlotAlert where
  | fenced
  | admitted
  | parked
  | powerFault
  | presenceChange
  | attention
  | violation
  | cardErrorMsg
  deriving DecidableEq, Repr

/-- The two part alert kinds, codes 16 and 17 (spec/08, Table 8-1). -/
inductive PartAlert where
  | eccCorrected
  | eccUncorrectable
  deriving DecidableEq, Repr

/-- A (slot, kind) pair of the alert send list (spec/08, R173). -/
inductive AlertPair where
  | slot (n : SlotId) (kind : SlotAlert)
  | part (kind : PartAlert)
  deriving DecidableEq, Repr

/-- Reading events of the error log in the order of Table 9-2. -/
inductive ReadEvent where
  | matching
  | examine
  | search
  | standIn
  | readEntry
  | merge
  | replayTake
  | readShadow
  | itemLeft
  deriving DecidableEq, Repr

/-- The latched location of the error log: the index with its store, and the key for a shadow record
(spec/09, Table 9-2). -/
inductive LatchedWord where
  | ort (index : BridgeTag)
  | shadow (number : RecordId) (function : BitVec 3) (offset : BitVec 12)
  deriving DecidableEq, Repr

/-- A latched location (spec/09, R181). -/
structure Latched where
  word  : LatchedWord
  slot  : SlotId
  event : ReadEvent
  time  : Time
  deriving DecidableEq, Repr

/-- The error log (spec/09, Table 9-2). -/
structure ErrorLog where
  latched   : Option Latched
  overflow  : Nat
  corrected : Nat
  announced : Bool
  deriving DecidableEq, Repr

/-- What the storage may suffer from outside (log 3): bits of a stored word flip, bits of a cell stick, or
three or more bad bits make the code give a wrong value as CLEAN or CORRECTED (spec/09, R176). -/
inductive Upset where
  | ortFlip (i : BridgeTag) (bits : Nat)
  | ortStuck (i : BridgeTag) (bits : Nat)
  | ortMisread (i : BridgeTag) (record : EntryRecord) (corrected : Bool)
  | shadowFlip (k : RecordId) (bits : Nat)
  | shadowStuck (k : RecordId) (bits : Nat)
  | shadowMisread (k : RecordId) (union : BitVec 4) (value : Word) (corrected : Bool)
  deriving DecidableEq, Repr

/-- The model's own inputs and free choices: storage upsets still to come (log 3), the entry each search of
the ORT reads first (log 5), and how many free values have been drawn (log 9). -/
structure Env where
  upsets      : List Upset
  searchFirst : List BridgeTag
  draws       : Nat
  deriving DecidableEq, Repr

/-- The running state of the bridge: everything beside the settings and the management unit's cells. `headAnswer`
is the config answer that stood when the request at the head of the Upstream Ingress Queue reached the head, kept
once a SET-SLOT-POLICY has changed what its slot's policy says since (spec/01, R13, R14). -/
structure Bridge where
  now         : Time
  upIngress   : List HostQueued
  stall       : Option Stall
  headAnswer  : Option FenceAnswer
  ort         : Vector OrtWord 256
  workList    : List EntryItem
  direct      : Option DirectItem
  slots       : Vector Slot 4
  powerQueue  : List SlotId
  inrush      : List Time
  qualQueue   : List SlotId
  run         : Option Run
  shadowWords : Vector ShadowWord 384
  notes       : List Note
  bridgeQueue : List Transaction
  pointer     : SlotId
  burst       : Nat
  log         : ErrorLog
  partFlags   : BitVec 2
  sendList    : List AlertPair
  unrouted    : Nat
  unexpected  : Nat
  linkOut     : Option Transaction
  env         : Env
  deriving DecidableEq, Repr

/-! ### The management unit's cells (spec/10) -/

/-- State of a cell; the argument copy (words 0 to 7) is held while IN-PROGRESS (spec/10, R188). -/
inductive CellState where
  | idle
  | inProgress (arguments : Vector Word 8)
  | done
  deriving DecidableEq, Repr

/-- Status of a completed command, in the order of its codes 0 to 5 (spec/10, Table 10-9). -/
inductive CmdStatus where
  | done
  | wrongState
  | badArgument
  | overlap
  | noRoom
  | badOpcode
  deriving DecidableEq, Repr

/-- A cell: request words 0 to 7, the parts of response word 8, and response words 9 to 15. -/
structure Cell where
  request  : Vector Word 8
  state    : CellState
  status   : CmdStatus
  allClear : Bool
  echo     : BitVec 16
  results  : Vector Word 7
  deriving DecidableEq, Repr

/-- The cells, the Management Queue and the collision counter (spec/10, R188). -/
structure Mgmt where
  cells      : Vector Cell 16
  queue      : List CellId
  collisions : Nat
  deriving DecidableEq, Repr

/-- The state of the block. -/
structure State where
  pending  : List Instr
  settings : Settings
  bridge   : Bridge
  mgmt     : Mgmt
  deriving DecidableEq, Repr

/-! ### The values after power-on reset -/

/-- The default script (spec/06, R133). -/
def Script.default : Script where
  steps := (Vector.replicate 12 (ScriptStep.wait 1)).set 0
    (ScriptStep.readExpect 0 0 0x0000FFFF 0x0000FFFF .notEqual)
  length := 1
  retryLimit := 250
  retryInterval := 4

/-- The defaults of one slot (spec/00, Table 5). -/
def SlotSettings.reset : SlotSettings where
  busRange := { first := 0, last := 0, valid := false }
  timing :=
    { budgetCode := 5, threshold := 2, resetHold := 100, linkTimeout := 200,
      powerGoodTimeout := 100, offTime := 250 }
  policy :=
    { autoRecover := true, maxAttempts := 3, escalation := 2, fenceOnViolation := false,
      configAnswer := .ones, messagePolicy := .forward, captureWhenAway := true,
      shadowPolicy := .proceed, parkPower := .off, quota := 32, shadowLimit := 96 }
  inversions :=
    { prsnt := false, pwrgd := false, attn := false, pwren := false, srst := false, ind := false }
  script := Script.default
  exclusions := Vector.replicate 4 { first := 0, last := 0, valid := false }

/-- The part policies' defaults (spec/00, Table 5). -/
def PartPolicy.reset : PartPolicy where
  pieceSize := 128
  inrushCount := 2
  inrushWindow := 250
  burst := 4
  quietInterval := 10
  stallLimit := 5
  hostAnswerCode := 10
  holdLimit := 100

/-- The alert settings after either reset (spec/08, R172). -/
def AlertSettings.reset : AlertSettings where
  address := 0
  data := 0
  slotEnables := 0
  partEnables := 0

/-- The management function after either reset (spec/10, R185, R186). -/
def Header.reset : Header where
  busNumber := none
  memDecode := false
  basePage := 0

/-- The settings after power-on reset (spec/00, Table 5). -/
def Settings.reset : Settings where
  header := Header.reset
  windows := Vector.replicate 48 none
  slots := Vector.replicate 4 SlotSettings.reset
  part := PartPolicy.reset
  alert := AlertSettings.reset

/-- The empty fault record (spec/04, R102). -/
def FaultRecord.reset : FaultRecord where
  fenceReason := none
  parkReason := none
  expiries := 0
  standInPieces := 0
  discarded := 0
  violations := 0
  unexpected := 0
  late := 0
  nonfatal := 0
  correctable := 0
  fenceEvents := 0
  recoveries := 0

/-- A slot after power-on reset: EMPTY, every line deasserted (SRST asserted by the state). The input pins
stand at their deasserted levels, PRSNT and ATTN high, PWRGD low: DESIGN CHOICE (log 11). -/
def Slot.reset : Slot where
  stage := .empty
  attempts := 0
  restore := false
  fault := FaultRecord.reset
  suspicion := 0
  quietRef := 0
  pwren := false
  watch := false
  ind := { lit := false, since := none }
  pins := { prsnt := true, pwrgd := false, attn := true }
  filtered := { prsnt := false, pwrgd := false, attn := false }
  changeStart := { prsnt := none, pwrgd := none, attn := none }
  linkUp := false
  egress := []
  ingress := []
  upQueue := []
  shadow := []
  incomplete := false
  replayResult := none
  qualResult := none
  flags := 0
  cardOut := none

/-- The clear error log (spec/09, R183). -/
def ErrorLog.reset : ErrorLog where
  latched := none
  overflow := 0
  corrected := 0
  announced := false

/-- The bridge after power-on reset (spec/10, Table 10-3, and the owning rules it names). -/
def Bridge.reset : Bridge where
  now := 0
  upIngress := []
  stall := none
  headAnswer := none
  ort := Vector.replicate 256 { status := .free, flips := 0, stuck := 0 }
  workList := []
  direct := none
  slots := Vector.replicate 4 Slot.reset
  powerQueue := []
  inrush := []
  qualQueue := []
  run := none
  shadowWords := Vector.replicate 384 { union := 0, value := 0, flips := 0, stuck := 0 }
  notes := []
  bridgeQueue := []
  pointer := 0
  burst := 0
  log := ErrorLog.reset
  partFlags := 0
  sendList := []
  unrouted := 0
  unexpected := 0
  linkOut := none
  env := { upsets := [], searchFirst := [], draws := 0 }

/-- An IDLE cell with all sixteen words 0 (spec/10, R190). -/
def Cell.reset : Cell where
  request := Vector.replicate 8 0
  state := .idle
  status := .done
  allClear := false
  echo := 0
  results := Vector.replicate 7 0

/-- The cells after either reset (spec/10, R190). -/
def Mgmt.reset : Mgmt where
  cells := Vector.replicate 16 Cell.reset
  queue := []
  collisions := 0

/-- The block right after power-on reset, with no command waiting. -/
def State.reset : State where
  pending := []
  settings := Settings.reset
  bridge := Bridge.reset
  mgmt := Mgmt.reset

end Sys2Proof.Machine
end

