-- ==== Sys2Proof/Machine/Ops.lean ====
section
/-! DEFINITION. The named operations every meaning is built from: the test of time, the parts of the state
by slot and by index, room in the queues, saturating counters, logical lines, bit fields and byte order. -/

namespace Sys2Proof.Machine

open Sys2Proof

/-! ### Time (spec/03, R51, R52) -/

/-- The wrap-safe test: `t` has been reached at `now` (R52). -/
def reached (now t : Time) : Bool := decide ((now - t).toNat < 2 ^ 31)

/-- A time in milliseconds as a count of the timebase (R51). -/
def msec (n : Nat) : Time := BitVec.ofNat 32 (1000 * n)

/-- The budget of a code: 50 µs doubled `k` times (R53). -/
def budget (k : Nat) : Time := BitVec.ofNat 32 (50 * 2 ^ k)

/-- A counter that stops at its stated maximum (spec/00, 3.2). -/
def satAdd (top n k : Nat) : Nat := min (n + k) top

/-- The largest value of the 16-bit counters (spec/04, R102). -/
def countTop : Nat := 65535

/-! ### Bit fields and bytes -/

/-- Bits `lo` to `lo + len − 1` of a word as a number. -/
def bitField (w : Word) (lo len : Nat) : Nat := (w.extractLsb' lo len).toNat

/-- Bit `k` of a word. -/
def bitAt (w : Word) (k : Nat) : Bool := w.getLsbD k

/-- A word with the listed fields (value, lowest bit, width) and every other bit 0. -/
def packWord (fields : List (Nat × Nat × Nat)) : Word :=
  fields.foldl (fun w f => w ||| (BitVec.ofNat 32 (f.1 % 2 ^ f.2.2) <<< f.2.1)) 0

/-- 1 for true, 0 for false. -/
def boolNat (b : Bool) : Nat := if b then 1 else 0

/-- Byte `k` of a word is bits 8k to 8k + 7 (spec/07, R145; spec/10, R187). -/
def byteOf (w : Word) (k : Nat) : Byte := w.extractLsb' (8 * k) 8

/-- The four bytes of a word, byte 0 first. -/
def bytesOf (w : Word) : List Byte := [byteOf w 0, byteOf w 1, byteOf w 2, byteOf w 3]

/-- The word of four bytes, byte 0 first; bytes that are not there are 0. -/
def wordOf (bytes : List Byte) : Word :=
  (bytes.getD 3 0 ++ bytes.getD 2 0 ++ bytes.getD 1 0 ++ bytes.getD 0 0 : BitVec 32)

/-- The 32-bit mask whose byte `k` is all ones when bit `k` of the byte enables is set. -/
def enableMask (be : BitVec 4) : Word :=
  wordOf ((List.range 4).map fun k => if be.getLsbD k then 0xFF else 0)

/-- The enabled bytes of `new` over the bytes of `old` (spec/07, R151; spec/10, R185). -/
def mergeBytes (be : BitVec 4) (old new : Word) : Word :=
  (old &&& ~~~ enableMask be) ||| (new &&& enableMask be)

/-! ### Parts of the settings -/

/-- The settings of slot `n`. -/
def Settings.slot (g : Settings) (n : SlotId) : SlotSettings := g.slots.get n

/-- The policies of slot `n`. -/
def Settings.policy (g : Settings) (n : SlotId) : SlotPolicy := (g.slot n).policy

/-- The timings of slot `n`. -/
def Settings.timing (g : Settings) (n : SlotId) : SlotTiming := (g.slot n).timing

/-- Settings with those of slot `n` changed. -/
def Settings.modSlot (g : Settings) (n : SlotId) (f : SlotSettings → SlotSettings) : Settings :=
  { g with slots := g.slots.set n (f (g.slot n)) }

/-- The completion budget of slot `n` (spec/03, R53). -/
def Settings.slotBudget (g : Settings) (n : SlotId) : Time := budget (g.timing n).budgetCode

/-- The bridge's requester ID: the taken bus number, or bus 0 while none is taken (spec/10, R186). -/
def Settings.bridgeId (g : Settings) : ReqId :=
  { bus := g.header.busNumber.getD 0, device := 0, function := 0 }

/-- The aperture base (spec/10, R185). -/
def Settings.apertureBase (g : Settings) : Nat := 4096 * g.header.basePage.toNat

/-! ### Parts of the bridge -/

/-- The running state of slot `n`. -/
def Bridge.slot (b : Bridge) (n : SlotId) : Slot := b.slots.get n

/-- The bridge with the running state of slot `n` changed. -/
def Bridge.modSlot (b : Bridge) (n : SlotId) (f : Slot → Slot) : Bridge :=
  { b with slots := b.slots.set n (f (b.slot n)) }

/-- Whether slot `n` is ADMITTED. -/
def Bridge.isAdmitted (b : Bridge) (n : SlotId) : Bool := decide ((b.slot n).stage = .admitted)

/-- The fault record of slot `n` changed. -/
def Bridge.modFault (b : Bridge) (n : SlotId) (f : FaultRecord → FaultRecord) : Bridge :=
  b.modSlot n fun s => { s with fault := f s.fault }

/-- `k` more discarded posted transactions of slot `n` (spec/04, R102). -/
def Bridge.countDiscarded (b : Bridge) (n : SlotId) (k : Nat) : Bridge :=
  b.modFault n fun r => { r with discarded := satAdd countTop r.discarded k }

/-- Room for one more transaction in slot `n`'s Slot Egress FIFO (spec/01, R23). -/
def Bridge.egressHasRoom (b : Bridge) (n : SlotId) : Bool :=
  decide ((b.slot n).egress.length < Config.egressRoom)

/-- Room for one more transaction in slot `n`'s upstream queue (spec/08, R167). -/
def Bridge.upQueueHasRoom (b : Bridge) (n : SlotId) : Bool :=
  decide ((b.slot n).upQueue.length < Config.upstreamQueueRoom)

/-- Room for one more transaction in the bridge-origin queue (spec/08, R166). -/
def Bridge.bridgeQueueHasRoom (b : Bridge) : Bool :=
  decide (b.bridgeQueue.length < Config.bridgeQueueRoom)

/-- A transaction at the end of slot `n`'s Slot Egress FIFO. -/
def Bridge.pushEgress (b : Bridge) (n : SlotId) (source : EgressClass) (t : Transaction) : Bridge :=
  b.modSlot n fun s => { s with egress := s.egress ++ [{ source := source, txn := t }] }

/-- A transaction at the end of slot `n`'s upstream queue. -/
def Bridge.pushUpQueue (b : Bridge) (n : SlotId) (t : Transaction) : Bridge :=
  b.modSlot n fun s => { s with upQueue := s.upQueue ++ [t] }

/-- A transaction at the end of the bridge-origin queue. -/
def Bridge.pushBridgeQueue (b : Bridge) (t : Transaction) : Bridge :=
  { b with bridgeQueue := b.bridgeQueue ++ [t] }

/-- The head leaves the Upstream Ingress Queue; the stall record becomes absent (spec/01, R24), and the next head's
config answer is the one that stands as it reaches the head (R13). -/
def Bridge.popUpstream (b : Bridge) : Bridge :=
  { b with upIngress := b.upIngress.tail, stall := none, headAnswer := none }

/-- The head leaves slot `n`'s Card Ingress Queue. -/
def Bridge.popCard (b : Bridge) (n : SlotId) : Bridge :=
  b.modSlot n fun s => { s with ingress := s.ingress.tail }

/-- One more in the part-level unrouted counter (spec/01, R15). -/
def Bridge.countUnrouted (b : Bridge) : Bridge :=
  { b with unrouted := satAdd countTop b.unrouted 1 }

/-! ### Lines (spec/05) -/

/-- The value of one input. -/
def PerInput.get {α : Type} (p : PerInput α) : InputLine → α
  | .prsnt => p.prsnt
  | .pwrgd => p.pwrgd
  | .attn => p.attn

/-- The value of one input replaced. -/
def PerInput.set {α : Type} (p : PerInput α) (line : InputLine) (x : α) : PerInput α :=
  match line with
  | .prsnt => { p with prsnt := x }
  | .pwrgd => { p with pwrgd := x }
  | .attn => { p with attn := x }

/-- Whether an input is active at the high level: the default of Table 5-1, or the other level when its
inversion setting is set (R106). -/
def activeHigh (v : Inversions) : InputLine → Bool
  | .prsnt => v.prsnt
  | .pwrgd => !v.pwrgd
  | .attn => v.attn

/-- The fixed filter time of an input (R108). -/
def filterTime : InputLine → Time
  | .prsnt => msec 20
  | .pwrgd => msec 1
  | .attn => msec 20

/-- The unfiltered logical level of an input of slot `n` (R106). -/
def Bridge.unfiltered (b : Bridge) (g : Settings) (n : SlotId) (line : InputLine) : Bool :=
  ((b.slot n).pins.get line) == activeHigh (g.slot n).inversions line

/-- SRST of a slot is asserted in EMPTY, OFF, POWERING, RESETTING and PARKED (spec/04, Table 4-2). -/
def Stage.srst : Stage → Bool
  | .empty => true
  | .off => true
  | .powering _ => true
  | .resetting _ _ => true
  | .linking _ => false
  | .qualifying => false
  | .restoring _ => false
  | .admitted => false
  | .fenced => false
  | .parked => true

/-- The three sideband outputs of a slot (spec/05, Table 5-1). -/
inductive OutputLine where
  | pwren
  | srst
  | ind
  deriving DecidableEq, Repr

/-- The logical level of an output of slot `n`. -/
def Bridge.outputLevel (b : Bridge) (n : SlotId) : OutputLine → Bool
  | .pwren => (b.slot n).pwren
  | .srst => (b.slot n).stage.srst
  | .ind => (b.slot n).ind.lit

/-- The level at an output pin, high or low: SRST is active low by default, the other two active high, and
a set inversion takes the other level (R106). -/
def Bridge.outputPin (b : Bridge) (g : Settings) (n : SlotId) (line : OutputLine) : Bool :=
  match line with
  | .pwren => b.outputLevel n .pwren != (g.slot n).inversions.pwren
  | .srst => b.outputLevel n .srst == (g.slot n).inversions.srst
  | .ind => b.outputLevel n .ind != (g.slot n).inversions.ind

/-- The pattern IND follows in a state (spec/04, Table 4-9); `blink p` is asserted for `p` milliseconds and
deasserted for `p` milliseconds. -/
inductive IndPattern where
  | dark
  | steady
  | blink (half : Nat)
  deriving DecidableEq, Repr

/-- Table 4-9. -/
def Stage.indPattern : Stage → IndPattern
  | .empty => .dark
  | .off => .dark
  | .powering _ => .blink 500
  | .resetting _ _ => .blink 500
  | .linking _ => .blink 500
  | .qualifying => .blink 500
  | .restoring _ => .blink 500
  | .admitted => .steady
  | .fenced => .blink 500
  | .parked => .blink 125

/-- The indicator at the start of a pattern; a blink starts with its asserted half (R105). -/
def IndPattern.start (p : IndPattern) (now : Time) : Indicator :=
  match p with
  | .dark => { lit := false, since := none }
  | .steady => { lit := true, since := none }
  | .blink _ => { lit := true, since := some now }

/-- Slot `n` enters a state: a different pattern starts at once, the same pattern runs on (R105). -/
def Bridge.setStage (b : Bridge) (n : SlotId) (stage : Stage) : Bridge :=
  b.modSlot n fun s =>
    { s with
      stage := stage
      ind := if s.stage.indPattern = stage.indPattern then s.ind
        else stage.indPattern.start b.now }

/-- PWREN of slot `n` is turned off, which ends the watch of power-good (spec/05, R117). -/
def Bridge.pwrenOff (b : Bridge) (n : SlotId) : Bridge :=
  b.modSlot n fun s => { s with pwren := false, watch := false }

/-! ### Transactions -/

/-- Whether a request is posted (spec/01, Table 1-1; R3 for a kind not in the table). -/
def ReqBody.posted : ReqBody → Bool
  | .memRead _ _ _ _ => false
  | .memWrite _ _ _ _ _ => true
  | .cfgRead _ _ _ => false
  | .cfgWrite _ _ _ _ => false
  | .message _ => true
  | .unknown p => p

/-- Whether a transaction is a posted request. -/
def Transaction.isPosted : Transaction → Bool
  | .request r => ReqBody.posted r.body
  | .completion _ => false

/-- How many of the transactions are posted requests, which an emptying counts (spec/01, R22, R23). -/
def postedCount (ts : List Transaction) : Nat := (ts.filter Transaction.isPosted).length

/-- A request under the bridge's requester ID and a bridge tag (spec/02, R32). While it waits in a queue it carries
the ID that stood when it was placed there; `sentUnder` gives it the ID under which it is sent (log 7). -/
def Request.underTag (r : Request) (g : Settings) (i : BridgeTag) : Request :=
  { r with id := g.bridgeId, tag := BitVec.ofNat 16 i.val }

/-- A request under the bridge's requester ID as it stands now (spec/10, R186). -/
def Request.fromBridge (r : Request) (g : Settings) : Request := { r with id := g.bridgeId }

/-- A transaction as the link takes it from a Slot Egress FIFO or a slot's upstream queue: a non-posted request is
sent under the bridge's requester ID as it stands when it is sent (spec/02, R32; spec/10, R186; log 7), and the fields
of every other transaction are unchanged (spec/01, R1). -/
def Transaction.sentUnder (t : Transaction) (g : Settings) : Transaction :=
  match t with
  | .request r => .request (if ReqBody.posted r.body then r else Request.fromBridge r g)
  | .completion c => .completion c

/-- A transaction as the link takes it from the bridge-origin queue: an alert write is sent under the bridge's
requester ID as it stands when it is sent (spec/08, R174; spec/10, R186; log 7). -/
def Transaction.ownSent (t : Transaction) (g : Settings) : Transaction :=
  match t with
  | .request r => .request (Request.fromBridge r g)
  | .completion c => .completion c

/-- A completion given back the original requester's ID and tag (spec/02, R32). -/
def Completion.forRequester (c : Completion) (q : Requester) : Completion :=
  { c with id := q.id, tag := q.tag }

/-- A stand-in completion without data (spec/03, R72). -/
def singleCompletion (q : Requester) (status : Status) (remaining : Nat) (lower : BitVec 7) :
    Completion :=
  { status := status, id := q.id, tag := q.tag, remaining := remaining, lower := lower, data := [] }

/-- A SUCCESS completion of a configuration read with the given word (spec/01, R2). -/
def cfgReadCompletion (q : Requester) (w : Word) : Completion :=
  { status := .success, id := q.id, tag := q.tag, remaining := 4, lower := 0, data := bytesOf w }

/-- The identity of a request's requester. -/
def Request.requester (r : Request) : Requester := { id := r.id, tag := r.tag }

end Sys2Proof.Machine
end

