-- ==== Sys2Proof/Machine/Operands.lean ====
section
/-! DEFINITION. Reading what arrives: which requests fit Table 1-1, the routes of spec/01 1.3 and 1.4, the
fit of a completion to an entry (spec/02, R34, R35), and the argument words of a command (spec/10, R191). -/

namespace Sys2Proof.Machine

open Sys2Proof

/-! ### The form of a request (spec/01, R1, R3) -/

/-- A length of Table 1-1: from 4 to `top` and a multiple of 4. -/
def lengthFits (length top : Nat) : Bool :=
  decide (4 ≤ length) && decide (length ≤ top) && decide (length % 4 = 0)

/-- Whether a request fits Table 1-1. A dword offset that is no multiple of 4 and a payload of another length
fit no row either: DEDUCED (log 15). -/
def ReqBody.fits : ReqBody → Bool
  | .memRead a l _ _ => lengthFits l 4096 && decide (a.toNat % 4 = 0)
  | .memWrite a l _ _ p => lengthFits l 512 && decide (a.toNat % 4 = 0) && decide (p.length = l)
  | .cfgRead t l _ => decide (l = 4) && decide (t.offset.toNat % 4 = 0)
  | .cfgWrite t l _ p => decide (l = 4) && decide (t.offset.toNat % 4 = 0) && decide (p.length = 4)
  | .message _ => true
  | .unknown _ => false

/-! ### Windows (spec/01, R5 to R7) -/

/-- The window covers the whole range of `length` bytes from `addr`, its limit included (R5, R9). -/
def Window.covers (w : Window) (addr length : Nat) : Bool :=
  decide (w.base.toNat ≤ addr) && decide (addr + length ≤ w.limit.toNat + 1)

/-- Two windows share an address. -/
def Window.overlaps (v w : Window) : Bool :=
  decide (v.base.toNat ≤ w.limit.toNat) && decide (w.base.toNat ≤ v.limit.toNat)

/-- Two windows that may not share an address: both DECODE, or both GRANT of one owner (R6). -/
def Window.rivals (v w : Window) : Bool :=
  match v.kind, w.kind with
  | .decode _, .decode _ => true
  | .grant _, .grant _ => decide (v.owner = w.owner)
  | .decode _, .grant _ => false
  | .grant _, .decode _ => false

/-- Two windows that the law of the table keeps apart (R6). -/
def Window.conflicts (v w : Window) : Bool := v.rivals w && v.overlaps w

/-- The valid windows, in index order. -/
def Settings.validWindows (g : Settings) : List Window := g.windows.toList.filterMap id

/-- The owner and fence answer of a DECODE window. -/
def Window.decodes (w : Window) : Option (SlotId × FenceAnswer) :=
  match w.kind with
  | .decode answer => some (w.owner, answer)
  | .grant _ => none

/-- The valid DECODE window that covers the whole range, with its owner and answer; at most one can (R9). -/
def Settings.decodeHit (g : Settings) (addr length : Nat) : Option (SlotId × FenceAnswer) :=
  (g.validWindows.filter (fun w => w.covers addr length)).findSome? Window.decodes

/-- Whether an access permits a read. -/
def Access.permitsRead : Access → Bool
  | .readWrite => true
  | .readOnly => true
  | .writeOnly => false
  | .closed => false

/-- Whether an access permits a write. -/
def Access.permitsWrite : Access → Bool
  | .readWrite => true
  | .readOnly => false
  | .writeOnly => true
  | .closed => false

/-- The window is a GRANT window of slot `n` that permits a read (or a write). -/
def Window.grants (w : Window) (n : SlotId) (isRead : Bool) : Bool :=
  match w.kind with
  | .decode _ => false
  | .grant access =>
    decide (w.owner = n) && (if isRead then access.permitsRead else access.permitsWrite)

/-- A GRANT window of slot `n` covers the whole range and permits the access (R17). -/
def Settings.granted (g : Settings) (n : SlotId) (isRead : Bool) (addr length : Nat) : Bool :=
  g.validWindows.any fun w => w.grants n isRead && w.covers addr length

/-- The bus lies in the range. -/
def BusRange.holds (r : BusRange) (bus : BitVec 8) : Bool :=
  r.valid && decide (r.first.toNat ≤ bus.toNat) && decide (bus.toNat ≤ r.last.toNat)

/-- The slot whose valid card bus range holds the bus (R10). -/
def Settings.busOwner (g : Settings) (bus : BitVec 8) : Option SlotId :=
  allSlots.find? fun n => (g.slot n).busRange.holds bus

/-! ### Routing the host's traffic (spec/01, R9, R10) -/

/-- The address lies in the enabled 4 KiB aperture (R9; spec/10, R187). -/
def Settings.inAperture (g : Settings) (addr : Nat) : Bool :=
  g.header.memDecode && decide (g.apertureBase ≤ addr) && decide (addr ≤ g.apertureBase + 4095)

/-- The management function claims the request (spec/10, R186). -/
def Settings.claims (g : Settings) (t : CfgTarget) : Bool :=
  match g.header.busNumber with
  | none => decide (t.device = 0) && decide (t.function = 0) && (g.busOwner t.bus).isNone
  | some bus => decide (t.bus = bus)

/-- Route of a host memory request (R9). -/
def Settings.routeMemory (g : Settings) (addr length : Nat) : HostRoute :=
  if g.inAperture addr then .management
  else match g.decodeHit addr length with
    | some (n, answer) => .slot n (some answer)
    | none => .unrouted

/-- Route of a host configuration request (R10). -/
def Settings.routeConfig (g : Settings) (t : CfgTarget) : HostRoute :=
  if g.claims t then .management
  else match g.busOwner t.bus with
    | some n => .slot n none
    | none => .unrouted

/-- Route of a host transaction at its acceptance (R8 to R10). -/
def Settings.hostRoute (g : Settings) : Transaction → HostRoute
  | .completion _ => .byTag
  | .request r =>
    match r.body with
    | .memRead a l _ _ => g.routeMemory a.toNat l
    | .memWrite a l _ _ _ => g.routeMemory a.toNat l
    | .cfgRead t _ _ => g.routeConfig t
    | .cfgWrite t _ _ _ => g.routeConfig t
    | .message _ => .unrouted
    | .unknown _ => .unrouted

/-! ### Routing a card's traffic (spec/01, R17) -/

/-- Destination of a card memory request: a peer whose window covers the whole range, else upstream. -/
def Settings.cardDest (g : Settings) (n : SlotId) (addr length : Nat) : CardDest :=
  match g.decodeHit addr length with
  | some (m, answer) => if m = n then .upstream else .peer m answer
  | none => .upstream

/-- Route and grant outcome of a transaction of card `n` at its acceptance (R17). -/
def Settings.cardRoute (g : Settings) (n : SlotId) : Transaction → CardRoute
  | .completion _ => .unchecked
  | .request r =>
    match r.body with
    | .memRead a l _ _ => .checked (g.cardDest n a.toNat l) (g.granted n true a.toNat l)
    | .memWrite a l _ _ _ => .checked (g.cardDest n a.toNat l) (g.granted n false a.toNat l)
    | .cfgRead _ _ _ => .checked .upstream false
    | .cfgWrite _ _ _ _ => .checked .upstream false
    | .message _ => .unchecked
    | .unknown _ => .unchecked

/-! ### What an entry records of a request (spec/02, Table 2-3) -/

/-- Kind, address or target and length of a non-posted request of Table 1-1, with no byte delivered. -/
def ReqBody.asked : ReqBody → Option Asked
  | .memRead a l _ _ => some (.memRead a l 0)
  | .cfgRead t _ be => some (.cfgRead t be)
  | .cfgWrite t _ be _ => some (.cfgWrite t be)
  | .memWrite _ _ _ _ _ => none
  | .message _ => none
  | .unknown _ => none

/-! ### The fit of a completion (spec/02, R34, R35) -/

/-- A completion fits an OPEN entry that asked for this. -/
def Asked.fits (a : Asked) (c : Completion) : Bool :=
  match a with
  | .memRead addr length delivered =>
    match c.status with
    | .success =>
      decide (0 < c.data.length) && decide (c.data.length % 4 = 0)
        && decide (c.lower.toNat = (addr.toNat + delivered) % 128)
        && decide (c.remaining = length - delivered)
        && decide (c.data.length ≤ length - delivered)
    | .unsupported => true
    | .aborted => true
    | .notReady => false
  | .cfgRead _ _ =>
    match c.status with
    | .success => decide (c.data.length = 4) && decide (c.remaining = 4)
    | .unsupported => c.data.isEmpty
    | .aborted => c.data.isEmpty
    | .notReady => c.data.isEmpty
  | .cfgWrite _ _ => c.data.isEmpty

/-- What an entry has asked for after a fitting completion: nothing more (`none`), or the same read with
more bytes delivered (R34, R35). -/
def Asked.after (a : Asked) (c : Completion) : Option Asked :=
  match a with
  | .memRead addr length delivered =>
    if c.status = .success then
      if delivered + c.data.length = length then none
      else some (.memRead addr length (delivered + c.data.length))
    else none
  | .cfgRead _ _ => none
  | .cfgWrite _ _ => none

/-- A late completion finishes its target's debt (R40). -/
def Asked.lateFinishes (a : Asked) (c : Completion) : Bool :=
  match a with
  | .memRead _ _ _ => decide (c.status ≠ .success) || decide (c.remaining = c.data.length)
  | .cfgRead _ _ => true
  | .cfgWrite _ _ => true

/-! ### Stand-in fields (spec/03, R71, R72) -/

/-- Lower address of a position: the position modulo 128. -/
def lowerOf (position : Nat) : BitVec 7 := BitVec.ofNat 7 position

/-- Byte-count-remaining of a direct item's single completion; 4 for a configuration request, for a kind not
in the table, and for a length outside 4–4096 or not a multiple of 4 (R72). -/
def ReqBody.singleRemaining : ReqBody → Nat
  | .memRead _ l _ _ => if lengthFits l 4096 then l else 4
  | .memWrite _ _ _ _ _ => 4
  | .cfgRead _ _ _ => 4
  | .cfgWrite _ _ _ _ => 4
  | .message _ => 4
  | .unknown _ => 4

/-- Lower address of a direct item's single completion; the two lowest bits are taken as 0 (R72). -/
def ReqBody.singleLower : ReqBody → BitVec 7
  | .memRead a _ _ _ => lowerOf (4 * (a.toNat / 4))
  | .memWrite _ _ _ _ _ => 0
  | .cfgRead _ _ _ => 0
  | .cfgWrite _ _ _ _ => 0
  | .message _ => 0
  | .unknown _ => 0

/-- The end of the piece that starts at `start` (R71): the next multiple of S, or the end of the request. -/
def pieceEnd (size start stop : Nat) : Nat := min stop ((start / size + 1) * size)

/-- The piece that starts at `start` (R71, Table 3-6). -/
def pieceCompletion (q : Requester) (size start stop : Nat) : Completion :=
  { status := .success, id := q.id, tag := q.tag, remaining := stop - start, lower := lowerOf start,
    data := List.replicate (pieceEnd size start stop - start) 0xFF }

/-! ### Argument words of a command (spec/10, R191) -/

/-- Opcode: bits 0–7 of word 0. -/
def opcodeOf (a : Vector Word 8) : Nat := bitField (a.get 0) 0 8

/-- Slot number: bits 8–11 of word 0. -/
def slotField (a : Vector Word 8) : Nat := bitField (a.get 0) 8 4

/-- The named slot, if it is 0–3. -/
def slotOf (a : Vector Word 8) : Option SlotId :=
  if h : slotField a < 4 then some ⟨slotField a, h⟩ else none

/-- Request tag: bits 16–31 of word 0. -/
def tagField (a : Vector Word 8) : BitVec 16 := (a.get 0).extractLsb' 16 16

/-- A 64-bit argument from its low and high words. -/
def addr64 (low high : Word) : Addr := high ++ low

/-- ONES for 0, ERROR for 1. -/
def answerOf (bit : Bool) : FenceAnswer := if bit then .error else .ones

/-- The access of a code: 0 READ-WRITE, 1 READ-ONLY, 2 WRITE-ONLY, 3 CLOSED. -/
def accessOf (code : Nat) : Access :=
  if code = 0 then .readWrite else if code = 1 then .readOnly
  else if code = 2 then .writeOnly else .closed

/-- A code above 10 is clamped to 10 (spec/03, R53). -/
def clampCode (k : Nat) : Nat := min k 10

/-- A value lies in a range, both ends included. -/
def inRange (x low high : Nat) : Bool := decide (low ≤ x) && decide (x ≤ high)

/-- A configuration offset: at most 4092 and a multiple of 4 (spec/06, R134; spec/07, R153, R162). -/
def offsetFits (x : Nat) : Bool := decide (x ≤ 4092) && decide (x % 4 = 0)

end Sys2Proof.Machine
end

