-- ==== Sys2Proof/Machine/Flags.lean ====
section
/-! DEFINITION. Flags and counters: pending alert flags and the alert send list (spec/08), the error log
(spec/09), and the all-clear flag (spec/10, R189). -/

namespace Sys2Proof.Machine

open Sys2Proof

/-! ### Alert kinds (spec/08, Table 8-1) -/

/-- Code of a slot kind. -/
def SlotAlert.code : SlotAlert → Nat
  | .fenced => 1
  | .admitted => 2
  | .parked => 3
  | .powerFault => 4
  | .presenceChange => 5
  | .attention => 6
  | .violation => 7
  | .cardErrorMsg => 8

/-- Code of a part kind. -/
def PartAlert.code : PartAlert → Nat
  | .eccCorrected => 16
  | .eccUncorrectable => 17

/-- The bit of a slot kind in a slot's flags and in the enables. -/
def SlotAlert.bit (k : SlotAlert) : Nat := k.code - 1

/-- The bit of a part kind in the part flags and in the enables. -/
def PartAlert.bit (k : PartAlert) : Nat := k.code - 16

/-- The kind of a pair is enabled. -/
def AlertPair.enabled (p : AlertPair) (g : Settings) : Bool :=
  match p with
  | .slot _ k => g.alert.slotEnables.getLsbD k.bit
  | .part k => g.alert.partEnables.getLsbD k.bit

/-- The pair's write would be sent now: its enable is on and the alert address is not 0 (R173, R174). -/
def AlertPair.sendable (p : AlertPair) (g : Settings) : Bool :=
  p.enabled g && decide (g.alert.address ≠ 0)

/-- Low byte of the alert word: the slot (0 for a part kind) in bits 6–7 and the code in bits 0–4 (R174). -/
def AlertPair.lowByte : AlertPair → Nat
  | .slot n k => 64 * n.val + k.code
  | .part k => k.code

/-- The alert word (R174; spec/10, R196). -/
def AlertPair.word (p : AlertPair) (data : Word) : Word :=
  data.extractLsb' 8 24 ++ BitVec.ofNat 8 p.lowByte

/-- The pending flag of a pair is set. -/
def Bridge.flagSet (b : Bridge) : AlertPair → Bool
  | .slot n k => (b.slot n).flags.getLsbD k.bit
  | .part k => b.partFlags.getLsbD k.bit

/-- The pending flag of a pair set. -/
def Bridge.setFlag (b : Bridge) : AlertPair → Bridge
  | .slot n k => b.modSlot n fun s => { s with flags := s.flags ||| BitVec.ofNat 8 (2 ^ k.bit) }
  | .part k => { b with partFlags := b.partFlags ||| BitVec.ofNat 2 (2 ^ k.bit) }

/-- A write is owed for a pair: it joins the end of the send list unless it is already there (R173). -/
def Bridge.oweWrite (b : Bridge) (g : Settings) (p : AlertPair) : Bridge :=
  if p.sendable g && !(b.sendList.contains p) then { b with sendList := b.sendList ++ [p] } else b

/-- A kind is raised: the first event sets the flag and tests for a write, a later one changes nothing
(R171, R173). -/
def Bridge.raise (b : Bridge) (g : Settings) (p : AlertPair) : Bridge :=
  if b.flagSet p then b else (b.setFlag p).oweWrite g p

/-! ### The error log (spec/09, R178 to R181) -/

/-- A corrected read: counted, and announced if it is the first since the log was cleared (R178). -/
def Bridge.noteCorrection (b : Bridge) (g : Settings) : Bridge :=
  if b.log.announced then
    { b with log := { b.log with corrected := satAdd countTop b.log.corrected 1 } }
  else
    ({ b with log := { b.log with corrected := satAdd countTop b.log.corrected 1,
                                  announced := true } }).raise g (.part .eccCorrected)

/-- An error is reported to the log: it latches its location, or overflows (R181). -/
def ErrorLog.report (l : ErrorLog) (e : Latched) : ErrorLog :=
  match l.latched with
  | none => { l with latched := some e }
  | some _ => { l with overflow := satAdd 255 l.overflow 1 }

/-- An uncorrectable read: reported, and ECC_UNCORRECTABLE raised for the part (R179, R180). -/
def Bridge.noteUncorrectable (b : Bridge) (g : Settings) (word : LatchedWord) (n : SlotId)
    (event : ReadEvent) : Bridge :=
  ({ b with log := b.log.report { word := word, slot := n, event := event, time := b.now } }).raise g
    (.part .eccUncorrectable)

/-! ### The fault record and all-clear -/

/-- The fault record is empty: no reason and every counter but recoveries 0 (spec/04, R102). -/
def FaultRecord.isEmpty (r : FaultRecord) : Bool :=
  decide ({ r with recoveries := 0 } = FaultRecord.reset)

/-- The all-clear flag of a response to a command that names `slot` (spec/10, R189). -/
def Bridge.allClear (b : Bridge) (slot : Option SlotId) : Bool :=
  match slot with
  | some n => (b.slot n).fault.isEmpty && decide ((b.slot n).flags = 0)
  | none => false

end Sys2Proof.Machine
end

