-- ==== Sys2Proof/Machine/Ort.lean ====
section
/-! DEFINITION. The Outstanding Request Table (spec/02): accounts and quotas, allocation, protected reads of
entry records, standing in, orphaning, releasing and losing entries, and the searches a sequencer makes. -/

namespace Sys2Proof.Machine

open Sys2Proof

/-! ### The allocation map and the accounts (R25 to R28) -/

/-- All indexes in ascending order. -/
def allTags : List BridgeTag := List.finRange 256

/-- The account slot of an index that is not FREE. -/
def EntryStatus.account : EntryStatus → Option SlotId
  | .free => none
  | .inUse n _ => some n
  | .lost n => some n

/-- The index is FREE. -/
def EntryStatus.isFree : EntryStatus → Bool
  | .free => true
  | .inUse _ _ => false
  | .lost _ => false

/-- The index is IN-USE. -/
def EntryStatus.isInUse : EntryStatus → Bool
  | .free => false
  | .inUse _ _ => true
  | .lost _ => false

/-- The index is LOST. -/
def EntryStatus.isLost : EntryStatus → Bool
  | .free => false
  | .inUse _ _ => false
  | .lost _ => true

/-- The status of index `i`. -/
def Bridge.status (b : Bridge) (i : BridgeTag) : EntryStatus := (b.ort.get i).status

/-- The word of index `i` replaced. -/
def Bridge.setWord (b : Bridge) (i : BridgeTag) (w : OrtWord) : Bridge :=
  { b with ort := b.ort.set i w }

/-- The status of index `i` replaced, with the stored word written anew: its check bits are new, so no bit
of it is bad but those of the cell (spec/09, R176). -/
def Bridge.putStatus (b : Bridge) (i : BridgeTag) (status : EntryStatus) : Bridge :=
  b.setWord i { b.ort.get i with status := status, flips := 0 }

/-- The in-use count of a slot: entries IN-USE or LOST that count against it (R27). -/
def Bridge.inUseCount (b : Bridge) (n : SlotId) : Nat :=
  (allTags.filter fun i => decide ((b.status i).account = some n)).length

/-- The number of LOST entries (spec/10, R197). -/
def Bridge.lostCount (b : Bridge) : Nat := (allTags.filter fun i => (b.status i).isLost).length

/-- The sum of a quantity over the four slots. -/
def sumSlots (f : SlotId → Nat) : Nat := f 0 + f 1 + f 2 + f 3

/-- The entries of the shared pool: 256 less the sum of the quotas (R28). -/
def sharedPool (quota : SlotId → Nat) : Nat := Config.ortEntries - sumSlots quota

/-- The use of the shared pool: the sum of the excesses over the quotas (R28). -/
def Bridge.poolUse (b : Bridge) (quota : SlotId → Nat) : Nat :=
  sumSlots fun n => b.inUseCount n - quota n

/-- An entry is available to a slot's account (R28). -/
def Bridge.available (b : Bridge) (g : Settings) (n : SlotId) : Bool :=
  decide (b.inUseCount n < (g.policy n).quota)
    || decide (b.poolUse (fun m => (g.policy m).quota) < sharedPool fun m => (g.policy m).quota)

/-! ### Allocation (R30, R31) -/

/-- The FREE entry with the lowest index (R30). -/
def Bridge.lowestFree (b : Bridge) : Option BridgeTag :=
  allTags.find? fun i => (b.status i).isFree

/-- The entry a request of this account would take: there is one when an entry is available (R28, R30). -/
def Bridge.offeredEntry (b : Bridge) (g : Settings) (account : SlotId) : Option BridgeTag :=
  if b.available g account then b.lowestFree else none

/-- The budget that applies to a target (spec/03, R54). -/
def targetBudget (g : Settings) : Side → Time
  | .upstream => budget g.part.hostAnswerCode
  | .slot n => g.slotBudget n

/-- The record written at allocation (Table 2-3). -/
def Bridge.newRecord (b : Bridge) (g : Settings) (origin : Origin) (target : Side) (asked : Asked)
    (answer : Option FenceAnswer) : EntryRecord :=
  { phase := .opened (b.now + targetBudget g target), origin := origin, target := target,
    asked := asked, allocatedAt := b.now, answer := answer }

/-- The entry goes IN-USE for the account, its record written whole (R30). -/
def Bridge.allocate (b : Bridge) (i : BridgeTag) (account : SlotId) (r : EntryRecord) : Bridge :=
  b.putStatus i (.inUse account r)

/-! ### Leaving (R40 to R47) -/

/-- The pending note of a tag removed without an offer (spec/07, R149). -/
def Bridge.dropNote (b : Bridge) (i : BridgeTag) : Bridge :=
  { b with notes := b.notes.filter fun m => decide (m.tag ≠ i) }

/-- The entry goes to FREE. -/
def Bridge.freeEntry (b : Bridge) (i : BridgeTag) : Bridge :=
  (b.putStatus i .free).dropNote i

/-- The record of an IN-USE entry written anew with a change. -/
def Bridge.putRecord (b : Bridge) (i : BridgeTag) (r : EntryRecord) : Bridge :=
  match b.status i with
  | .inUse account _ => b.putStatus i (.inUse account r)
  | .free => b
  | .lost _ => b

/-- The hold expiry of an entry stood in or orphaned now (R42, R44). -/
def Bridge.holdExpiry (b : Bridge) (g : Settings) : Time := b.now + msec g.part.holdLimit

/-- The entry goes to STOOD-IN with its work item LISTED (R42). The item itself is listed by the caller. -/
def Bridge.standInEntry (b : Bridge) (g : Settings) (i : BridgeTag) (r : EntryRecord) : Bridge :=
  (b.putRecord i { r with phase := .stoodIn (b.holdExpiry g) true false }).dropNote i

/-- The entry goes to ORPHANED (R42). -/
def Bridge.orphanEntry (b : Bridge) (g : Settings) (i : BridgeTag) (r : EntryRecord) : Bridge :=
  (b.putRecord i { r with phase := .orphaned (b.holdExpiry g) }).dropNote i

/-- The entry is released: a STOOD-IN entry whose item is LISTED takes release pending, any other held entry
goes to FREE (R40, R44, R45). -/
def Bridge.releaseEntry (b : Bridge) (i : BridgeTag) (r : EntryRecord) : Bridge :=
  match r.phase with
  | .opened _ => b
  | .stoodIn hold true _ => b.putRecord i { r with phase := .stoodIn hold true true }
  | .stoodIn _ false _ => b.freeEntry i
  | .orphaned _ => b.freeEntry i

/-- The entry goes to LOST (R46; spec/09, R179): the index, its status and its account stay in the map, the
item that answers it is removed unanswered, its pending note goes, and the error is reported. A bridge
block that holds the tag is told at the end of the step (`Bridge.settle`, log 6). -/
def Bridge.loseEntry (b : Bridge) (g : Settings) (i : BridgeTag) (account : SlotId)
    (event : ReadEvent) : Bridge :=
  (({ b.setWord i { b.ort.get i with status := .lost account } with
      workList := b.workList.filter fun x => decide (x.entry ≠ i) }).dropNote i).noteUncorrectable g
    (.ort i) account event

/-! ### Protected reads (spec/09, R177) -/

/-- What the code gives for a word with this many bad bits (spec/09, R176; log 4). -/
inductive ReadOutcome where
  | clean
  | corrected
  | uncorrectable
  deriving DecidableEq, Repr

/-- One bad bit is corrected, two or more are not. -/
def readOutcome (bad : Nat) : ReadOutcome :=
  match bad with
  | 0 => .clean
  | 1 => .corrected
  | _ + 2 => .uncorrectable

/-- The outcome a read of index `i` would have. -/
def OrtWord.outcome (w : OrtWord) : ReadOutcome := readOutcome (w.flips + w.stuck)

/-- A read of an entry record under an event: the record, or nothing for a FREE or LOST index, which is not
read, and for a record found uncorrectable, which makes the entry LOST (R46; spec/09, R177 to R179). -/
def Bridge.readEntry (b : Bridge) (g : Settings) (i : BridgeTag) (event : ReadEvent) :
    Bridge × Option EntryRecord :=
  match b.status i with
  | .free => (b, none)
  | .lost _ => (b, none)
  | .inUse account r =>
    match (b.ort.get i).outcome with
    | .clean => (b, some r)
    | .corrected => ((b.setWord i { b.ort.get i with flips := 0 }).noteCorrection g, some r)
    | .uncorrectable => (b.loseEntry g i account event, none)

/-- The record as a read now would give it, with no effect. -/
def Bridge.peekEntry (b : Bridge) (i : BridgeTag) : Option EntryRecord :=
  match b.status i with
  | .free => none
  | .lost _ => none
  | .inUse _ r => if (b.ort.get i).outcome = .uncorrectable then none else some r

/-! ### Items of the Stand-in Work List (spec/03, R61, R66) -/

/-- The item that answers a stood-in entry: toward the host behind the target slot's upstream queue, or toward
the origin card (R61, R63). An entry of origin BRIDGE has none. -/
def Bridge.itemFor (b : Bridge) (i : BridgeTag) (r : EntryRecord) : Option EntryItem :=
  match r.origin, r.target with
  | .upstream _, .slot n =>
    some { entry := i, dest := .host n (b.slot n).upQueue.length, begun := none }
  | .slot a _, _ => some { entry := i, dest := .card a, begun := none }
  | .upstream _, .upstream => none
  | .bridge _, _ => none

/-- The item of a stood-in entry joins the end of the list. -/
def Bridge.listItem (b : Bridge) (i : BridgeTag) (r : EntryRecord) : Bridge :=
  match b.itemFor i r with
  | some item => { b with workList := b.workList ++ [item] }
  | none => b

/-- The ORT takes the report that an entry's item has left the list: the work item becomes LEFT, and an entry
whose release is pending goes to FREE (R45). -/
def Bridge.itemLeft (b : Bridge) (g : Settings) (i : BridgeTag) : Bridge :=
  match b.readEntry g i .itemLeft with
  | (b', some r) =>
    match r.phase with
    | .stoodIn _ _ true => b'.freeEntry i
    | .stoodIn hold _ false => b'.putRecord i { r with phase := .stoodIn hold false false }
    | .opened _ => b'
    | .orphaned _ => b'
  | (b', none) => b'

/-- The item answers card `a`. -/
def EntryItem.toward (x : EntryItem) (a : SlotId) : Bool :=
  match x.dest with
  | .host _ _ => false
  | .card c => decide (c = a)

/-- Every stand-in item toward card `a` is removed unanswered and the ORT is told of each; the direct item, if
it answers card `a`, becomes free (R67). The ORT takes the reports in list order, which is the model's choice: it
decides which of several uncorrectable errors latches, and spec/09, R181 does not fix it (log 34). -/
def Bridge.removeItemsToward (b : Bridge) (g : Settings) (a : SlotId) : Bridge :=
  ((b.workList.filter fun x => x.toward a).map EntryItem.entry).foldl (fun c i => c.itemLeft g i)
    { b with
      workList := b.workList.filter fun x => !(x.toward a)
      direct := match b.direct with
        | some d => if d.reply = .card a then none else some d
        | none => none }

/-! ### Searches (spec/04, R78; spec/09, Table 9-1) -/

/-- The IN-USE indexes in ascending order. -/
def Bridge.inUseTags (b : Bridge) : List BridgeTag := allTags.filter fun i => (b.status i).isInUse

/-- The order in which a search reads: the entry of the free choice first where it is IN-USE, then the rest in
ascending order. So any uncorrectable entry may be the first one found (spec/09, R181; log 5). -/
def Bridge.searchOrder (b : Bridge) : List BridgeTag :=
  match b.env.searchFirst with
  | [] => b.inUseTags
  | i :: _ => if (b.status i).isInUse then i :: b.inUseTags.filter (fun j => decide (j ≠ i))
    else b.inUseTags

/-- The free choice of one search is used up. -/
def Bridge.drawSearch (b : Bridge) : Bridge :=
  { b with env := { b.env with searchFirst := b.env.searchFirst.tail } }

/-- One read of a search with what is done on the record; a LOST entry is skipped (R46). -/
def Bridge.searchStep (g : Settings) (act : BridgeTag → EntryRecord → Bridge → Bridge) (b : Bridge)
    (i : BridgeTag) : Bridge :=
  match b.readEntry g i .search with
  | (b', some r) => act i r b'
  | (b', none) => b'

/-- A search of the ORT reads each IN-USE entry's record and acts on it (R78; log 22). -/
def Bridge.search (b : Bridge) (g : Settings) (act : BridgeTag → EntryRecord → Bridge → Bridge) :
    Bridge :=
  b.searchOrder.foldl (Bridge.searchStep g act) b.drawSearch

/-- What leaving ADMITTED does to one entry (spec/04, R78, R80; R42): an OPEN entry toward the slot is stood
in, or freed for origin BRIDGE; an OPEN entry from the slot is orphaned. -/
def Bridge.departEntry (g : Settings) (n : SlotId) (i : BridgeTag) (r : EntryRecord) (b : Bridge) :
    Bridge :=
  match r.phase with
  | .opened _ =>
    if r.target = .slot n then
      match r.origin with
      | .bridge _ => b.freeEntry i
      | .upstream _ => b.standInEntry g i r
      | .slot _ _ => b.standInEntry g i r
    else
      match r.origin with
      | .slot m _ => if m = n then b.orphanEntry g i r else b
      | .upstream _ => b
      | .bridge _ => b
  | .stoodIn _ _ _ => b
  | .orphaned _ => b

/-- The index is OPEN. -/
def EntryStatus.isOpen : EntryStatus → Bool
  | .inUse _ r =>
    match r.phase with
    | .opened _ => true
    | .stoodIn _ _ _ => false
    | .orphaned _ => false
  | .free => false
  | .lost _ => false

/-- The index is STOOD-IN. -/
def EntryStatus.isStoodIn : EntryStatus → Bool
  | .inUse _ r =>
    match r.phase with
    | .opened _ => false
    | .stoodIn _ _ _ => true
    | .orphaned _ => false
  | .free => false
  | .lost _ => false

/-- The age of an entry: (now − allocated at) mod 2^32 (R78). -/
def Bridge.age (b : Bridge) (i : BridgeTag) : Nat :=
  match b.status i with
  | .inUse _ r => (b.now - r.allocatedAt).toNat
  | .free => 0
  | .lost _ => 0

/-- Insertion into a list in age order, oldest first, behind those of equal age. -/
def insertByAge (age : BridgeTag → Nat) (i : BridgeTag) : List BridgeTag → List BridgeTag
  | [] => [i]
  | j :: rest => if age j < age i then i :: j :: rest else j :: insertByAge age i rest

/-- Age order, oldest first, entries of equal age in the order given (R78). -/
def sortByAge (age : BridgeTag → Nat) (tags : List BridgeTag) : List BridgeTag :=
  tags.foldl (fun sorted i => insertByAge age i sorted) []

/-- The item of an index as its record stands. -/
def Bridge.listItemOf (b : Bridge) (i : BridgeTag) : Bridge :=
  match b.status i with
  | .inUse _ r => b.listItem i r
  | .free => b
  | .lost _ => b

/-- A slot leaves ADMITTED: its entries are stood in, orphaned or freed, and the items of those stood in
together join the end of the list in age order (R78; R42). -/
def Bridge.departAdmitted (b : Bridge) (g : Settings) (n : SlotId) : Bridge :=
  let c := b.search g (Bridge.departEntry g n)
  let fresh := b.inUseTags.filter fun i => (b.status i).isOpen && (c.status i).isStoodIn
  (sortByAge c.age fresh).foldl Bridge.listItemOf c

/-- The slot's OPEN entries of origin BRIDGE go to FREE (R43, R78). -/
def Bridge.freeBridgeEntry (n : SlotId) (i : BridgeTag) (r : EntryRecord) (b : Bridge) : Bridge :=
  match r.phase, r.origin with
  | .opened _, .bridge _ => if r.target = .slot n then b.freeEntry i else b
  | _, _ => b

/-- A held entry whose target is the slot is released (R45). -/
def Bridge.releaseHeldEntry (n : SlotId) (i : BridgeTag) (r : EntryRecord) (b : Bridge) : Bridge :=
  if r.target = .slot n then b.releaseEntry i r else b

end Sys2Proof.Machine
end

