-- ==== Sys2Proof/Machine/Sequencer.lean ====
section
/-! DEFINITION. The slot sequencers (spec/04): entering and leaving states, the fence act, recovery, attempt
failures, parking, presence loss and power-good loss. -/

namespace Sys2Proof.Machine

open Sys2Proof

/-! ### Entering a state with SRST asserted (R77) -/

/-- The Card Ingress Queue and the Slot Egress FIFO are emptied, and the posted requests they held are counted
as discarded (spec/01, R22, R23). -/
def Bridge.emptyPortQueues (b : Bridge) (n : SlotId) : Bridge :=
  let s := b.slot n
  (b.modSlot n fun s => { s with ingress := [], egress := [] }).countDiscarded n
    (postedCount (s.ingress.map CardQueued.txn) + postedCount (s.egress.map EgressTxn.txn))

/-- The entry actions of EMPTY, OFF, POWERING, RESETTING and PARKED (R77). That the search for held entries reads
before the reports of the items removed is the model's choice, since R77 does not order its actions (log 34). -/
def Bridge.srstEntry (b : Bridge) (g : Settings) (n : SlotId) : Bridge :=
  ((b.emptyPortQueues n).search g (Bridge.releaseHeldEntry n)).removeItemsToward g n

/-! ### Leaving a state (R78) -/

/-- The slot leaves the Qualification Queue, and the engine abandons its run if it serves the slot
(spec/06, R130, R143). -/
def Bridge.leaveQualification (b : Bridge) (n : SlotId) : Bridge :=
  { b with
    qualQueue := b.qualQueue.filter fun m => decide (m ≠ n)
    run := match b.run with
      | some r => if r.slot = n then none else some r
      | none => none }

/-- The slot leaves the Power Queue (spec/05, R119). -/
def Bridge.leavePowerQueue (b : Bridge) (n : SlotId) : Bridge :=
  { b with powerQueue := b.powerQueue.filter fun m => decide (m ≠ n) }

/-- What leaving the slot's present state tells the other blocks (R78). The records that stand in the state
itself (power sequence, reset phase, link timer, replay) go with the change of state. -/
def Bridge.leave (b : Bridge) (g : Settings) (n : SlotId) : Bridge :=
  match (b.slot n).stage with
  | .admitted => b.departAdmitted g n
  | .qualifying => (b.leaveQualification n).search g (Bridge.freeBridgeEntry n)
  | .restoring _ => b.search g (Bridge.freeBridgeEntry n)
  | .powering _ => b.leavePowerQueue n
  | .empty => b
  | .off => b
  | .resetting _ _ => b
  | .linking _ => b
  | .fenced => b
  | .parked => b

/-! ### Entering RESETTING, POWERING, LINKING, PARKED, ADMITTED -/

/-- Entry to RESETTING: the attempt counter rises, the entry actions take place, and the phase is WARM-HOLD
when PWREN is asserted and the new count is below the escalation point, else OFF-WAIT (R94). -/
def Bridge.enterResetting (b : Bridge) (g : Settings) (n : SlotId) : Bridge :=
  let s := b.slot n
  let count := s.attempts + 1
  let c := (b.modSlot n fun s => { s with attempts := count }).srstEntry g n
  if s.pwren && decide (count < (g.policy n).escalation) then
    c.setStage n (.resetting .warmHold b.now)
  else
    (c.pwrenOff n).setStage n (.resetting .offWait b.now)

/-- Entry to POWERING in phase QUEUED, at the end of the Power Queue (R85, R96; spec/05, R111, R119). -/
def Bridge.enterPowering (b : Bridge) (g : Settings) (n : SlotId) : Bridge :=
  let c := (b.srstEntry g n).setStage n (.powering .queued)
  { c with powerQueue := c.powerQueue ++ [n] }

/-- Entry to LINKING: SRST is released and the link timer starts (R89; spec/06, R127). -/
def Bridge.enterLinking (b : Bridge) (n : SlotId) : Bridge := b.setStage n (.linking b.now)

/-- Entry to QUALIFYING: the slot joins the end of the Qualification Queue (R90; spec/06, R130). -/
def Bridge.enterQualifying (b : Bridge) (n : SlotId) : Bridge :=
  let c := b.setStage n .qualifying
  { c with qualQueue := c.qualQueue ++ [n] }

/-- Entry to PARKED: the park reason is latched if none is, PWREN stays asserted only where `keep` says so, and
the PARKED alert is raised (R98). -/
def Bridge.enterParked (b : Bridge) (g : Settings) (n : SlotId) (reason : Option ParkReason)
    (keep : Bool) : Bridge :=
  let c := (b.srstEntry g n).modFault n fun r =>
    { r with parkReason := match r.parkReason with
        | some old => some old
        | none => reason }
  let d := if keep then c else c.pwrenOff n
  (d.setStage n .parked).raise g (.slot n .parked)

/-- Entry to ADMITTED (R92; spec/03, R60). -/
def Bridge.enterAdmitted (b : Bridge) (g : Settings) (n : SlotId) : Bridge :=
  ((b.modSlot n fun s =>
      { s with
        attempts := 0
        suspicion := 0
        quietRef := b.now
        fault := { s.fault with recoveries := satAdd countTop s.fault.recoveries 1 } }).setStage n
    .admitted).raise g (.slot n .admitted)

/-- Entry to OFF or EMPTY with power off and the recovery state cleared (R84, R88). -/
def Bridge.enterUnpowered (b : Bridge) (g : Settings) (n : SlotId) (stage : Stage) : Bridge :=
  ((((b.pwrenOff n).setStage n stage).srstEntry g n).modSlot n fun s =>
    { s with attempts := 0, restore := false })

/-! ### Attempt failures (R97) -/

/-- An attempt failure: the slot leaves its state, and enters RESETTING below the maximum attempts, or PARKED,
with PWREN kept under park power KEEP (R97, R98). -/
def Bridge.attemptFailure (b : Bridge) (g : Settings) (n : SlotId) (cause : Option ParkReason) :
    Bridge :=
  let c := b.leave g n
  if (b.slot n).attempts < (g.policy n).maxAttempts then c.enterResetting g n
  else c.enterParked g n cause (decide ((g.policy n).parkPower = .keep))

/-- The park reason that a fence trigger becomes as the cause of an attempt failure (Table 4-5). The other
triggers are reported only against ADMITTED slots or act by their own rules (log 21). -/
def Trigger.attemptCause : Trigger → Option ParkReason
  | .linkLost => some .linkLost
  | .cardFatal => some .cardFatal
  | .completionFault => some .completionFault
  | .headStall => some .headStall
  | .suspicion => none
  | .commanded => none
  | .violation => none
  | .powerLost => none
  | .presenceLost => none

/-! ### The fence (R79, R80) -/

/-- One more fence event (R79). -/
def Bridge.countFenceEvent (b : Bridge) (n : SlotId) : Bridge :=
  b.modFault n fun r => { r with fenceEvents := satAdd countTop r.fenceEvents 1 }

/-- The Slot Egress FIFO is emptied, its posted requests counted as discarded (R80, step 4). -/
def Bridge.emptyEgress (b : Bridge) (n : SlotId) : Bridge :=
  let s := b.slot n
  (b.modSlot n fun s => { s with egress := [] }).countDiscarded n
    (postedCount (s.egress.map EgressTxn.txn))

/-- The fence act, steps 1 to 7 (R80): FENCED, entries stood in and orphaned, FIFO emptied, first fence reason
latched, FENCED alert raised. -/
def Bridge.fenceAct (b : Bridge) (g : Settings) (n : SlotId) (reason : Trigger) : Bridge :=
  ((((b.setStage n .fenced).departAdmitted g n).emptyEgress n).modFault n fun r =>
    { r with fenceReason := match r.fenceReason with
        | some old => some old
        | none => some reason }).raise g (.slot n .fenced)

/-- Recovery starts: the restore flag is set and the slot enters RESETTING (R93). -/
def Bridge.startRecovery (b : Bridge) (g : Settings) (n : SlotId) : Bridge :=
  (b.modSlot n fun s => { s with restore := true }).enterResetting g n

/-- The sequencer takes a fence trigger other than PRESENCE_LOST and POWER_LOST (R79): it is counted, and it
fences an ADMITTED slot (with recovery at once under auto-recover on), ends an attempt, or has no further
effect. -/
def Bridge.takeTrigger (b : Bridge) (g : Settings) (n : SlotId) (t : Trigger) : Bridge :=
  let c := b.countFenceEvent n
  match (b.slot n).stage with
  | .admitted =>
    let d := c.fenceAct g n t
    if (g.policy n).autoRecover then d.startRecovery g n else d
  | .linking _ => c.attemptFailure g n t.attemptCause
  | .qualifying => c.attemptFailure g n t.attemptCause
  | .restoring _ => c.attemptFailure g n t.attemptCause
  | .empty => c
  | .off => c
  | .powering _ => c
  | .resetting _ _ => c
  | .fenced => c
  | .parked => c

/-- The slot leaves its state for a loss: an ADMITTED slot is fenced by steps 1 to 7, any other leaves with the
effects of R78 (R84, R87). -/
def Bridge.leaveByLoss (b : Bridge) (g : Settings) (n : SlotId) (t : Trigger) : Bridge :=
  match (b.slot n).stage with
  | .admitted => b.fenceAct g n t
  | _ => b.leave g n

/-- Debounced presence loss (R83, R84). -/
def Bridge.presenceLoss (b : Bridge) (g : Settings) (n : SlotId) : Bridge :=
  match (b.slot n).stage with
  | .empty => b
  | _ =>
    (((b.countFenceEvent n).leaveByLoss g n .presenceLost).enterUnpowered g n .empty).raise g
      (.slot n .presenceChange)

/-- Power-good loss (R87). -/
def Bridge.powerLoss (b : Bridge) (g : Settings) (n : SlotId) : Bridge :=
  let c := b.countFenceEvent n
  let d :=
    match (b.slot n).stage with
    | .admitted => (c.leaveByLoss g n .powerLost).enterParked g n (some .powerLost) false
    | .powering _ => (c.leaveByLoss g n .powerLost).enterParked g n (some .powerLost) false
    | .resetting _ _ => (c.leaveByLoss g n .powerLost).enterParked g n (some .powerLost) false
    | .linking _ => (c.leaveByLoss g n .powerLost).enterParked g n (some .powerLost) false
    | .qualifying => (c.leaveByLoss g n .powerLost).enterParked g n (some .powerLost) false
    | .restoring _ => (c.leaveByLoss g n .powerLost).enterParked g n (some .powerLost) false
    | .fenced => (c.leaveByLoss g n .powerLost).enterParked g n (some .powerLost) false
    | .parked => c.pwrenOff n
    | .empty => c.pwrenOff n
    | .off => c.pwrenOff n
  d.raise g (.slot n .powerFault)

/-- Power-good timeout: PWREN off, PARKED with POWER_FAULT whatever the park power (R86). -/
def Bridge.powerFault (b : Bridge) (g : Settings) (n : SlotId) : Bridge :=
  ((b.leave g n).enterParked g n (some .powerFault) false).raise g (.slot n .powerFault)

end Sys2Proof.Machine
end

