-- ==== Sys2Proof/Machine/Shadow.lean ====
section
/-! DEFINITION. The configuration shadow (spec/07): records and lists, protected reads, capture, and the
replay of a slot in RESTORING. -/

namespace Sys2Proof.Machine

open Sys2Proof

/-! ### Records and lists (R145, R146) -/

/-- The record's number is in some slot's list. -/
def Bridge.recordTaken (b : Bridge) (k : RecordId) : Bool :=
  allSlots.any fun n => (b.slot n).shadow.any fun x => decide (x.number = k)

/-- The free record with the lowest number (R146). -/
def Bridge.lowestFreeRecord (b : Bridge) : Option RecordId :=
  (List.finRange 384).find? fun k => !(b.recordTaken k)

/-- The position of a key in a list. -/
def keyPosition (function : BitVec 3) (offset : BitVec 12) (l : List ShadowKey) : Option Nat :=
  l.findIdx? fun x => decide (x.function = function) && decide (x.offset = offset)

/-- The contents of a record written with new check bits (spec/09, R176). -/
def Bridge.writeShadow (b : Bridge) (k : RecordId) (union : BitVec 4) (value : Word) : Bridge :=
  let w := { b.shadowWords.get k with union := union, value := value, flips := 0 }
  { b with shadowWords := b.shadowWords.set k w }

/-- The cursor of an active replay of the slot changed. -/
def Stage.mapCursor (f : Nat → Nat) : Stage → Stage
  | .restoring r => .restoring { r with cursor := f r.cursor }
  | .empty => .empty
  | .off => .off
  | .powering p => .powering p
  | .resetting p t => .resetting p t
  | .linking t => .linking t
  | .qualifying => .qualifying
  | .admitted => .admitted
  | .fenced => .fenced
  | .parked => .parked

/-- The active replay of a slot, present in RESTORING (R155). -/
def Stage.replay : Stage → Option Replay
  | .restoring r => some r
  | .empty => none
  | .off => none
  | .powering _ => none
  | .resetting _ _ => none
  | .linking _ => none
  | .qualifying => none
  | .admitted => none
  | .fenced => none
  | .parked => none

/-- The record at a position leaves the slot's list; the cursor of an active replay falls by one when the
position is below it (R146, R160). -/
def Bridge.removeRecord (b : Bridge) (n : SlotId) (position : Nat) : Bridge :=
  b.modSlot n fun s =>
    { s with
      shadow := s.shadow.eraseIdx position
      stage := s.stage.mapCursor fun c => if position < c then c - 1 else c }

/-- The slot's INCOMPLETE flag set (R154). -/
def Bridge.setIncomplete (b : Bridge) (n : SlotId) : Bridge :=
  b.modSlot n fun s => { s with incomplete := true }

/-! ### Protected reads (spec/09, R177, R180) -/

/-- A read of the contents of the record at a position of the slot's list: the contents, or nothing for an
uncorrectable record, which is removed with INCOMPLETE set. -/
def Bridge.readShadow (b : Bridge) (g : Settings) (n : SlotId) (position : Nat) (x : ShadowKey)
    (event : ReadEvent) : Bridge × Option (BitVec 4 × Word) :=
  let w := b.shadowWords.get x.number
  match readOutcome (w.flips + w.stuck) with
  | .clean => (b, some (w.union, w.value))
  | .corrected =>
    ((b.writeShadow x.number w.union w.value).noteCorrection g, some (w.union, w.value))
  | .uncorrectable =>
    (((b.removeRecord n position).setIncomplete n).noteUncorrectable g
      (.shadow x.number x.function x.offset) n event, none)

/-! ### Capture (R148 to R153) -/

/-- An offset lies in a valid exclusion range of the slot (R153). -/
def Settings.excluded (g : Settings) (n : SlotId) (offset : BitVec 12) : Bool :=
  (g.slot n).exclusions.toList.any fun e =>
    e.valid && decide (e.first.toNat ≤ offset.toNat) && decide (offset.toNat ≤ e.last.toNat)

/-- A new record at the end of the slot's list with the enabled bytes of the write (R152). The pool always has
a free record for it (R146). -/
def Bridge.newShadowRecord (b : Bridge) (n : SlotId) (function : BitVec 3) (offset : BitVec 12)
    (be : BitVec 4) (payload : Word) : Bridge :=
  match b.lowestFreeRecord with
  | some k =>
    (b.writeShadow k be (mergeBytes be 0 payload)).modSlot n fun s =>
      { s with shadow := s.shadow ++ [{ number := k, function := function, offset := offset }] }
  | none => b

/-- The record at `position`, already taken by an active replay, moves to the end of the list and the cursor
falls by one; a record not yet taken, or without an active replay, keeps its position (R159). -/
def Bridge.moveIfTaken (b : Bridge) (n : SlotId) (position : Nat) (x : ShadowKey) : Bridge :=
  match (b.slot n).stage.replay with
  | some r =>
    if position < r.cursor then
      (b.removeRecord n position).modSlot n fun s => { s with shadow := s.shadow ++ [x] }
    else b
  | none => b

/-- A kept write whose key is in the list merges byte by byte; an uncorrectable record is removed and the write
makes a new one (R151). -/
def Bridge.mergeShadow (b : Bridge) (g : Settings) (n : SlotId) (position : Nat) (x : ShadowKey)
    (be : BitVec 4) (payload : Word) : Bridge :=
  match b.readShadow g n position x .merge with
  | (c, some (union, value)) =>
    (c.writeShadow x.number (union ||| be) (mergeBytes be value payload)).moveIfTaken n position x
  | (c, none) => c.newShadowRecord n x.function x.offset be payload

/-- A write offered to the slot's shadow, by Table 7-3: the bridge after it and whether it was kept (R148). -/
def Bridge.offerWrite (b : Bridge) (g : Settings) (n : SlotId) (bus : BitVec 8)
    (function : BitVec 3) (offset : BitVec 12) (be : BitVec 4) (payload : Word) : Bridge × Bool :=
  if !(g.slot n).busRange.valid || decide (bus ≠ (g.slot n).busRange.first) then (b, false)
  else if be = 0 then (b, true)
  else if g.excluded n offset then (b, false)
  else
    match keyPosition function offset (b.slot n).shadow with
    | some position =>
      match (b.slot n).shadow[position]? with
      | some x => (b.mergeShadow g n position x be payload, true)
      | none => (b, false)
    | none =>
      if (b.slot n).shadow.length < (g.policy n).shadowLimit then
        (b.newShadowRecord n function offset be payload, true)
      else (b.setIncomplete n, false)

/-! ### The replay (R155 to R161) -/

/-- The active replay of slot `n` replaced; the slot is RESTORING wherever this is used. -/
def Bridge.setReplay (b : Bridge) (n : SlotId) (r : Replay) : Bridge :=
  b.modSlot n fun s => { s with stage := .restoring r }

/-- The replay result written (Table 7-5). -/
def Bridge.writeReplayResult (b : Bridge) (n : SlotId) (res : ReplayResult) : Bridge :=
  b.modSlot n fun s => { s with replayResult := some res }

/-- The replay is about to take a record: it makes the policy test (R154), then reports done when the cursor
has reached the record count, else waits to send (R156, R157). A replay that is done makes no search of the ORT as its
slot leaves RESTORING, which spec/04, R78 leaves open (log 22). -/
def Bridge.replayNext (b : Bridge) (g : Settings) (n : SlotId) : Bridge :=
  match (b.slot n).stage with
  | .restoring r =>
    if (b.slot n).incomplete && decide ((g.policy n).shadowPolicy = .fail) then
      (b.writeReplayResult n (.failed .incomplete none r.sent)).attemptFailure g n
        (some .shadowIncomplete)
    else if (b.slot n).shadow.length ≤ r.cursor then
      (b.writeReplayResult n (.done r.sent)).enterAdmitted g n
    else
      b.setReplay n { r with activity := .issueWait b.now, retryCount := 0 }
  | _ => b

/-- Entry to RESTORING: the replay becomes active with the stored script's retry rules (R91, R155). -/
def Bridge.enterRestoring (b : Bridge) (g : Settings) (n : SlotId) : Bridge :=
  (b.setStage n (.restoring
    { cursor := 0, activity := .issueWait b.now, copy := none, retryCount := 0,
      retryLimit := (g.slot n).script.retryLimit,
      retryInterval := (g.slot n).script.retryInterval, sent := 0 })).replayNext g n

/-- The key of the record due: the write copy's on a retry, else that of the record at the cursor (R157). -/
def Slot.keyDue (s : Slot) (r : Replay) : Option (BitVec 3 × BitVec 12) :=
  if r.retryCount = 0 then (s.shadow[r.cursor]?).map fun x => (x.function, x.offset)
  else r.copy.map fun w => (w.function, w.offset)

/-- The replay fails: the result is written, and RESTORE_FAIL is reported (R157). -/
def Bridge.replayFail (b : Bridge) (g : Settings) (n : SlotId) (cause : ReplayCause)
    (key : Option (BitVec 3 × BitVec 12)) (sent : Nat) : Bridge :=
  (b.writeReplayResult n (.failed cause key sent)).attemptFailure g n (some .restoreFail)

/-- The key of the write copy. -/
def Replay.copyKey (r : Replay) : Option (BitVec 3 × BitVec 12) :=
  r.copy.map fun w => (w.function, w.offset)

/-- The replay of slot `n` is told that its request expired or was lost (R157). -/
def Bridge.replayExpired (b : Bridge) (g : Settings) (n : SlotId) : Bridge :=
  match (b.slot n).stage with
  | .restoring r => b.replayFail g n .expired r.copyKey r.sent
  | _ => b

/-- The replay acts on an answer delivered for its outstanding tag (R157, R158). -/
def Bridge.replayAnswer (b : Bridge) (g : Settings) (n : SlotId) (tag : BridgeTag)
    (status : Status) : Bridge :=
  match (b.slot n).stage with
  | .restoring r =>
    if r.activity = .awaitAnswer tag then
      match status with
      | .success => b.replayNext g n
      | .aborted => b.replayFail g n .aborted r.copyKey r.sent
      | .unsupported => b.replayFail g n .unsupported r.copyKey r.sent
      | .notReady =>
        if r.retryCount < r.retryLimit then
          b.setReplay n
            { r with
              activity := .retryWait (b.now + msec r.retryInterval)
              retryCount := r.retryCount + 1 }
        else b.replayFail g n .retriesExhausted r.copyKey r.sent
    else b
  | _ => b

/-- After a change of the slot's list: a replay in ISSUE-WAIT that has taken no record of this turn and whose
cursor has come to the record count is again about to take a record (R160). -/
def Bridge.replayRecheck (b : Bridge) (g : Settings) (n : SlotId) : Bridge :=
  match (b.slot n).stage with
  | .restoring r =>
    match r.activity with
    | .issueWait _ =>
      if r.retryCount = 0 ∧ (b.slot n).shadow.length ≤ r.cursor then b.replayNext g n else b
    | .awaitAnswer _ => b
    | .retryWait _ => b
    | .pause _ => b
  | _ => b

end Sys2Proof.Machine
end

