-- ==== Sys2Proof/Machine/Engine.lean ====
section
/-! DEFINITION. The qualification engine (spec/06, 6.3 to 6.8), the sending of the bridge's own requests, and
what is settled at the end of a step: blocks told of a lost tag, and the engine taking the next slot. -/

namespace Sys2Proof.Machine

open Sys2Proof

/-! ### Runs, steps and results -/

/-- The step a run is at. -/
def Run.step? (r : Run) : Option ScriptStep := r.script.steps.toList[r.index]?

/-- The result record of a slot written (R142). -/
def Bridge.writeQualResult (b : Bridge) (n : SlotId) (res : QualResult) : Bridge :=
  b.modSlot n fun s => { s with qualResult := some res }

/-- The engine becomes idle. -/
def Bridge.endRun (b : Bridge) : Bridge := { b with run := none }

/-- The run passes (R142): PASS is written, and a slot in QUALIFYING enters RESTORING when its restore flag is
set and its shadow holds a record, else ADMITTED (spec/04, R90). No search of the ORT is made: none of its entries is
OPEN under origin BRIDGE then, and spec/04, R78 leaves open whether one is made all the same (log 22). -/
def Bridge.runPass (b : Bridge) (g : Settings) (n : SlotId) : Bridge :=
  let c := (b.endRun).writeQualResult n .pass
  match (b.slot n).stage with
  | .qualifying =>
    if (b.slot n).restore && !(b.slot n).shadow.isEmpty then c.enterRestoring g n
    else c.enterAdmitted g n
  | _ => c

/-- A step fails (R142): FAIL is written, and QUALIFY_FAIL is taken by a slot in QUALIFYING (R90, R97). -/
def Bridge.stepFail (b : Bridge) (g : Settings) (r : Run) (cause : StepCause)
    (observed : Option Word) : Bridge :=
  let c := (b.endRun).writeQualResult r.slot (.fail r.index cause observed)
  match (b.slot r.slot).stage with
  | .qualifying => c.attemptFailure g r.slot (some .qualifyFail)
  | _ => c

/-- The half a step begins with: the write half for ECHO, none for the other kinds (R139). -/
def ScriptStep.firstHalf : ScriptStep → Option Half
  | .readExpect _ _ _ _ _ => none
  | .write _ _ _ _ => none
  | .echo _ _ _ _ => some .write
  | .wait _ => none

/-- The activity a step begins with: ISSUE-WAIT from now, or PAUSE for a WAIT step (R135, R141). -/
def ScriptStep.firstActivity (s : ScriptStep) (now : Time) : Activity :=
  match s with
  | .readExpect _ _ _ _ _ => .issueWait now
  | .write _ _ _ _ => .issueWait now
  | .echo _ _ _ _ => .issueWait now
  | .wait d => .pause (now + msec d)

/-- The step at `index` begins, or the run passes when the script ends before it (R131, R137, R141). -/
def Bridge.beginStep (b : Bridge) (g : Settings) (n : SlotId) (script : Script) (index : Nat) :
    Bridge :=
  if index < script.length then
    match script.steps.toList[index]? with
    | some s =>
      let run : Run :=
        { slot := n, script := script, index := index, half := s.firstHalf,
          activity := s.firstActivity b.now, retryCount := 0 }
      { b with run := some run }
    | none => b.runPass g n
  else b.runPass g n

/-- The engine takes the slot at the head of the Qualification Queue: it copies the stored script and begins
step 0; a script of length 0 passes at once (R130, R131). -/
def Bridge.startRun (b : Bridge) (g : Settings) (n : SlotId) (rest : List SlotId) : Bridge :=
  ({ b with qualQueue := rest }).beginStep g n (g.slot n).script 0

/-- The step of a run passes: the next begins, or the run passes (R131). -/
def Bridge.stepPass (b : Bridge) (g : Settings) (r : Run) : Bridge :=
  b.beginStep g r.slot r.script (r.index + 1)

/-! ### Requests of the engine (R135, Table 6-4) -/

/-- The configuration target of the bridge's own request: the first bus of the slot's valid range, or bus 0. -/
def Settings.ownTarget (g : Settings) (n : SlotId) (function : BitVec 3) (offset : BitVec 12) :
    CfgTarget :=
  { bus := if (g.slot n).busRange.valid then (g.slot n).busRange.first else 0,
    device := 0, function := function, offset := offset }

/-- A configuration read of all four bytes. -/
def ownRead (t : CfgTarget) : ReqBody := .cfgRead t 4 0xF

/-- A configuration write, with a byte whose enable is clear sent as 0. -/
def ownWrite (t : CfgTarget) (be : BitVec 4) (value : Word) : ReqBody :=
  .cfgWrite t 4 be (bytesOf (mergeBytes be 0 value))

/-- The request of a step, or none for a WAIT step (Table 6-4). -/
def ScriptStep.request (s : ScriptStep) (g : Settings) (n : SlotId) (half : Option Half) :
    Option ReqBody :=
  match s with
  | .readExpect f o _ _ _ => some (ownRead (g.ownTarget n f o))
  | .write f o be v => some (ownWrite (g.ownTarget n f o) be v)
  | .echo f o _ pattern =>
    if half = some .read then some (ownRead (g.ownTarget n f o))
    else some (ownWrite (g.ownTarget n f o) 0xF pattern)
  | .wait _ => none

/-- A request of origin BRIDGE is sent to slot `n`: the entry is allocated for the slot's account with its
purpose, and the request goes into the slot's FIFO under its bridge tag (R135; spec/07, R156). -/
def Bridge.sendOwn (b : Bridge) (g : Settings) (n : SlotId) (i : BridgeTag) (body : ReqBody)
    (asked : Asked) (purpose : Purpose) : Bridge :=
  (b.allocate i n (b.newRecord g (.bridge purpose) (.slot n) asked none)).pushEgress n .bridgeRequest
    (.request { id := g.bridgeId, tag := BitVec.ofNat 16 i.val, body := body })

/-! ### Answers to the engine (R136 to R140) -/

/-- A NOT-READY answer: retried after the run copy's interval below its limit, else the step fails (R140). -/
def Bridge.scriptRetry (b : Bridge) (g : Settings) (r : Run) : Bridge :=
  if r.retryCount < r.script.retryLimit then
    let run : Run :=
      { r with
        activity := .retryWait (b.now + msec r.script.retryInterval)
        retryCount := r.retryCount + 1 }
    { b with run := some run }
  else b.stepFail g r .retriesExhausted none

/-- A SUCCESS answer to the step's request (R137 to R139). -/
def Bridge.scriptSuccess (b : Bridge) (g : Settings) (r : Run) (s : ScriptStep) (word : Word) :
    Bridge :=
  match s with
  | .readExpect _ _ mask value compare =>
    let same := decide (word &&& mask = value &&& mask)
    let passes := match compare with
      | .equal => same
      | .notEqual => !same
    if passes then b.stepPass g r else b.stepFail g r .mismatch (some word)
  | .write _ _ _ _ => b.stepPass g r
  | .echo _ _ mask pattern =>
    if r.half = some .read then
      if word &&& mask = pattern &&& mask then b.stepPass g r
      else b.stepFail g r .mismatch (some word)
    else
      let run : Run := { r with half := some .read, activity := .issueWait b.now, retryCount := 0 }
      { b with run := some run }
  | .wait _ => b

/-- The engine acts on an answer delivered for its outstanding tag (R136). -/
def Bridge.scriptAnswer (b : Bridge) (g : Settings) (tag : BridgeTag) (status : Status)
    (data : List Byte) : Bridge :=
  match b.run with
  | some r =>
    if r.activity = .awaitAnswer tag then
      match status with
      | .success =>
        match r.step? with
        | some s => b.scriptSuccess g r s (wordOf data)
        | none => b
      | .aborted => b.stepFail g r .aborted none
      | .unsupported => b.stepFail g r .unsupported none
      | .notReady => b.scriptRetry g r
    else b
  | none => b

/-- The engine is told that the request under this tag expired or was lost (R136). -/
def Bridge.scriptExpired (b : Bridge) (g : Settings) (tag : BridgeTag) : Bridge :=
  match b.run with
  | some r => if r.activity = .awaitAnswer tag then b.stepFail g r .expired none else b
  | none => b

/-! ### Settling a step -/

/-- The engine's outstanding tag, when the entry under it is LOST. -/
def Bridge.engineLostTag (b : Bridge) : Option BridgeTag :=
  match b.run with
  | some r =>
    match r.activity with
    | .awaitAnswer i => if (b.status i).isLost then some i else none
    | .issueWait _ => none
    | .retryWait _ => none
    | .pause _ => none
  | none => none

/-- Slot `n`'s replay awaits the answer to a tag whose entry is LOST. -/
def Bridge.replayLost (b : Bridge) (n : SlotId) : Bool :=
  match (b.slot n).stage.replay with
  | some r =>
    match r.activity with
    | .awaitAnswer i => (b.status i).isLost
    | .issueWait _ => false
    | .retryWait _ => false
    | .pause _ => false
  | none => false

/-- One thing left to settle, if there is one: the engine or a replay that holds a lost tag is told that its
request expired (spec/02, R46), or the idle engine takes the head of its queue (spec/06, R130). The order is the
model's choice, which R46, R136 and spec/09, R179 leave open: the engine first, then the replays in ascending slot
order, and the idle engine takes its head when none is left to tell (log 33). -/
def Bridge.settleOne (b : Bridge) (g : Settings) : Bridge :=
  match b.engineLostTag with
  | some i => b.scriptExpired g i
  | none =>
    match allSlots.find? b.replayLost with
    | some n => b.replayExpired g n
    | none =>
      match b.run, b.qualQueue with
      | none, n :: rest => b.startRun g n rest
      | none, [] => b
      | some _, _ => b

/-- `k` rounds of settling. -/
def Bridge.settleRounds (g : Settings) : Nat → Bridge → Bridge
  | 0, b => b
  | k + 1, b => Bridge.settleRounds g k (b.settleOne g)

/-- Everything left to settle at the end of a step (log 6). Each round tells one of the five request senders or
takes one slot from the queue, and none of them makes more work than that. -/
def Bridge.settle (b : Bridge) (g : Settings) : Bridge :=
  Bridge.settleRounds g (b.qualQueue.length + 5) b

/-- Nothing is left to settle: no sender holds a lost tag, and the engine serves a slot or none waits. -/
def Bridge.settled (b : Bridge) : Bool :=
  b.engineLostTag.isNone && (allSlots.find? b.replayLost).isNone
    && (b.run.isSome || b.qualQueue.isEmpty)

end Sys2Proof.Machine
end

