-- ==== Sys2Proof/Machine/Matching.lean ====
section
/-! DEFINITION. Matching completions (spec/02, 2.5 and 2.6), the direct item's occupation (spec/03, R62) and
the stall record of the Upstream Ingress Queue's head (spec/01, R24). -/

namespace Sys2Proof.Machine

open Sys2Proof

/-! ### Where a completion goes (R33, R36) -/

/-- The queue a forwarded completion needs room in. -/
inductive ForwardDest where
  | upQueue (n : SlotId)
  | egress (a : SlotId)
  deriving DecidableEq, Repr

/-- Destination of a fitting completion of an entry; none for origin BRIDGE (R36, R37). -/
def EntryRecord.forwardDest (r : EntryRecord) : Option ForwardDest :=
  match r.origin, r.target with
  | .upstream _, .slot n => some (.upQueue n)
  | .upstream _, .upstream => none
  | .slot a _, _ => some (.egress a)
  | .bridge _, _ => none

/-- The destination has room. -/
def Bridge.destHasRoom (b : Bridge) : ForwardDest → Bool
  | .upQueue n => b.upQueueHasRoom n
  | .egress a => b.egressHasRoom a

/-- A transaction placed in a destination. -/
def Bridge.pushDest (b : Bridge) (t : Transaction) : ForwardDest → Bridge
  | .upQueue n => b.pushUpQueue n t
  | .egress a => b.pushEgress a .traffic t

/-- The bridge tag of a completion that carries the bridge's requester ID (R33). -/
def tagFor (g : Settings) (c : Completion) : Option BridgeTag :=
  if c.id = g.bridgeId then
    if h : c.tag.toNat < 256 then some ⟨c.tag.toNat, h⟩ else none
  else none

/-- The record is OPEN. -/
def EntryRecord.isOpen (r : EntryRecord) : Bool :=
  match r.phase with
  | .opened _ => true
  | .stoodIn _ _ _ => false
  | .orphaned _ => false

/-- Where the completion would be forwarded if it were taken now from this side; none when the match would
not forward it (R33, R36). -/
def Bridge.matchDest (b : Bridge) (g : Settings) (side : Side) (c : Completion) :
    Option ForwardDest :=
  match tagFor g c with
  | some i =>
    match b.peekEntry i with
    | some r =>
      if r.isOpen && decide (r.target = side) && r.asked.fits c then r.forwardDest else none
    | none => none
  | none => none

/-- The destination the completion waits for, when it has no room (R16, R33). -/
def Bridge.matchBlocked (b : Bridge) (g : Settings) (side : Side) (c : Completion) :
    Option ForwardDest :=
  match b.matchDest g side c with
  | some d => if b.destHasRoom d then none else some d
  | none => none

/-! ### Taking a completion (R33 to R41) -/

/-- An unexpected completion is dropped and counted for its side (R41). -/
def Bridge.countUnexpected (b : Bridge) : Side → Bridge
  | .upstream => { b with unexpected := satAdd countTop b.unexpected 1 }
  | .slot n => b.modFault n fun r => { r with unexpected := satAdd countTop r.unexpected 1 }

/-- The slot whose late counter a late completion raises: the arriving slot, or the entry's account slot for a
completion from the host (R40). -/
def lateSlot (side : Side) (account : SlotId) : SlotId :=
  match side with
  | .upstream => account
  | .slot n => n

/-- A late completion is dropped and counted, and releases the entry when it finishes the debt (R40). -/
def Bridge.takeLate (b : Bridge) (i : BridgeTag) (r : EntryRecord) (side : Side) (c : Completion) :
    Bridge :=
  let counted :=
    match (b.status i).account with
    | some a => b.modFault (lateSlot side a) fun f => { f with late := satAdd countTop f.late 1 }
    | none => b
  if r.asked.lateFinishes c then counted.releaseEntry i r else counted

/-- A completion that does not fit its OPEN entry is dropped: a completion fault of the slot (R38), or one more
unexpected completion from the host (R39). -/
def Bridge.takeMisfit (b : Bridge) (g : Settings) : Side → Bridge
  | .upstream => b.countUnexpected .upstream
  | .slot n => b.takeTrigger g n .completionFault

/-- A host configuration write answered SUCCESS by an ADMITTED card is offered to the slot's shadow from its
pending note (R35; spec/07, R149). -/
def Bridge.captureAnswered (b : Bridge) (g : Settings) (i : BridgeTag) (r : EntryRecord)
    (c : Completion) : Bridge :=
  match r.asked, r.origin, r.target, b.notes.find? (fun m => decide (m.tag = i)) with
  | .cfgWrite _ _, .upstream _, .slot n, some note =>
    if c.status = .success && b.isAdmitted n then
      (b.offerWrite g note.slot note.bus note.function note.offset note.be note.payload).1
    else b
  | _, _, _, _ => b

/-- The entry after a fitting completion: FREE when the request has ended, else OPEN with more bytes delivered
and its deadline unchanged (R34, R35). -/
def Bridge.advanceEntry (b : Bridge) (i : BridgeTag) (r : EntryRecord) (c : Completion) : Bridge :=
  match r.asked.after c with
  | none => b.freeEntry i
  | some asked => b.putRecord i { r with asked := asked }

/-- The original requester of an entry, absent for origin BRIDGE. -/
def Origin.requester : Origin → Option Requester
  | .upstream q => some q
  | .slot _ q => some q
  | .bridge _ => none

/-- A fitting completion is forwarded to its origin under the original ID and tag (R36), or delivered to the
bridge block of the entry's purpose (R37). -/
def Bridge.takeFit (b : Bridge) (g : Settings) (i : BridgeTag) (r : EntryRecord) (c : Completion) :
    Bridge :=
  match r.origin with
  | .bridge purpose =>
    match purpose, r.target with
    | .script _, _ => (b.freeEntry i).scriptAnswer g i c.status c.data
    | .replay _, .slot n => (b.freeEntry i).replayAnswer g n i c.status
    | .replay _, .upstream => b.freeEntry i
  | .upstream q =>
    let d := (b.captureAnswered g i r c).advanceEntry i r c
    match r.forwardDest with
    | some dest => d.pushDest (.completion (Completion.forRequester c q)) dest
    | none => d
  | .slot _ q =>
    let d := b.advanceEntry i r c
    match r.forwardDest with
    | some dest => d.pushDest (.completion (Completion.forRequester c q)) dest
    | none => d

/-- A completion taken from the head of its queue, by Table 2-4 (R33). -/
def Bridge.takeMatch (b : Bridge) (g : Settings) (side : Side) (c : Completion) : Bridge :=
  match tagFor g c with
  | none => b.countUnexpected side
  | some i =>
    match b.readEntry g i .matching with
    | (b', none) => b'.countUnexpected side
    | (b', some r) =>
      if r.target = side then
        if r.isOpen then
          if r.asked.fits c then b'.takeFit g i r c else b'.takeMisfit g side
        else b'.takeLate i r side c
      else b'.countUnexpected side

/-! ### The direct item (spec/03, R62) -/

/-- First position of an answer in pieces: the request's address. -/
def ReqBody.firstPosition : ReqBody → Nat
  | .memRead a _ _ _ => a.toNat
  | .memWrite a _ _ _ _ => a.toNat
  | .cfgRead _ _ _ => 0
  | .cfgWrite _ _ _ _ => 0
  | .message _ => 0
  | .unknown _ => 0

/-- The direct item is occupied by a request, with the answer chosen by the rule that hands it over. -/
def Bridge.occupyDirect (b : Bridge) (r : Request) (reply : ReplyTo) (answer : StandIn)
    (counted : Option SlotId) : Bridge :=
  let d : DirectItem :=
    { request := r, reply := reply, answer := answer, next := ReqBody.firstPosition r.body,
      counted := counted, since := b.now }
  { b with direct := some d }

/-- The stand-in a read of a memory window gets: pieces for ONES, ABORTED for ERROR (spec/03, R69). -/
def FenceAnswer.memAnswer : FenceAnswer → StandIn
  | .ones => .pieces
  | .error => .single .aborted

/-- The stand-in a configuration read gets: 0xFFFFFFFF for ONES, ABORTED for ERROR (spec/03, R69). -/
def FenceAnswer.cfgAnswer : FenceAnswer → StandIn
  | .ones => .cfgOnes
  | .error => .single .aborted

/-! ### The stall record (spec/01, R24) -/

/-- The slot a request at the head of the Upstream Ingress Queue waits on. -/
def Bridge.requestWaitsOn (b : Bridge) (g : Settings) (r : Request) (n : SlotId) : Option SlotId :=
  if ReqBody.fits r.body && b.isAdmitted n then
    if !(b.egressHasRoom n) then some n
    else if !(ReqBody.posted r.body) && (b.offeredEntry g n).isNone then some n
    else none
  else if !(ReqBody.posted r.body) && b.direct.isSome then some n
  else none

/-- The slot the head of the Upstream Ingress Queue waits on, if it waits on one (R24). -/
def Bridge.headWaitsOn (b : Bridge) (g : Settings) : Option SlotId :=
  match b.upIngress with
  | [] => none
  | q :: _ =>
    match q.txn, q.route with
    | .completion c, _ =>
      match b.matchBlocked g .upstream c with
      | some (.egress a) => some a
      | some (.upQueue _) => none
      | none => none
    | .request r, .slot n _ => b.requestWaitsOn g r n
    | .request _, .management => none
    | .request _, .unrouted => none
    | .request _, .byTag => none

/-- The stall record set when the head has begun to wait on a slot, kept while it waits on, and absent while it
waits on none (R24; log 16). -/
def Bridge.noteStall (b : Bridge) (g : Settings) : Bridge :=
  match b.stall, b.headWaitsOn g with
  | none, some n => { b with stall := some { slot := n, start := b.now } }
  | some _, none => { b with stall := none }
  | none, none => b
  | some _, some _ => b

end Sys2Proof.Machine
end

