-- ==== Sys2Proof/Machine/Acts.lean ====
section
/-! DEFINITION. How a command acts on the whole state: on the bridge alone, or on the bridge with what is left
at its end settled (log 6). The settings and the cells are read by the act and not changed. -/

namespace Sys2Proof.Machine

open Sys2Proof

/-- The next state of a command that acts on the bridge alone. -/
def State.act (s : State) (f : Bridge → Settings → Bridge) :
    Host.Outcome State Fault Refusal :=
  .next { s with bridge := f s.bridge s.settings }

/-- The next state of a command that acts on the bridge alone and may leave something to settle. -/
def State.actSettled (s : State) (f : Bridge → Settings → Bridge) :
    Host.Outcome State Fault Refusal :=
  s.act fun b g => (f b g).settle g

/-- The request at the head of the Upstream Ingress Queue with its route. -/
def Bridge.hostHead (b : Bridge) : Option (Request × HostRoute) :=
  match b.upIngress with
  | [] => none
  | q :: _ =>
    match q.txn with
    | .request r => some (r, q.route)
    | .completion _ => none

/-- The completion at the head of the Upstream Ingress Queue. -/
def Bridge.hostHeadCompletion (b : Bridge) : Option Completion :=
  match b.upIngress with
  | [] => none
  | q :: _ =>
    match q.txn with
    | .request _ => none
    | .completion c => some c

/-- The request at the head of slot `n`'s Card Ingress Queue with its route. -/
def Bridge.cardHead (b : Bridge) (n : SlotId) : Option (Request × CardRoute) :=
  match (b.slot n).ingress with
  | [] => none
  | q :: _ =>
    match q.txn with
    | .request r => some (r, q.route)
    | .completion _ => none

/-- The completion at the head of slot `n`'s Card Ingress Queue. -/
def Bridge.cardHeadCompletion (b : Bridge) (n : SlotId) : Option Completion :=
  match (b.slot n).ingress with
  | [] => none
  | q :: _ =>
    match q.txn with
    | .request _ => none
    | .completion c => some c

end Sys2Proof.Machine
end

