-- ==== Sys2Proof/Machine/Upstream.lean ====
section
/-! DEFINITION. The host's side (spec/01, 1.3): acceptance, the head of the Upstream Ingress Queue for a slot
ADMITTED or not, unrouted and malformed requests, and the host's completions. A command whose condition does
not hold changes nothing (log 1), but for a waiting head's stall record (R24; log 16). -/

namespace Sys2Proof.Machine

open Sys2Proof

/-! ### Acceptance (R8, R11) -/

/-- A host transaction accepted with its route while the queue has room; while it is full the link holds the
host off (R11). -/
def Bridge.acceptHost (b : Bridge) (g : Settings) (t : Transaction) : Bridge :=
  if b.upIngress.length < Config.upstreamIngressRoom then
    { b with upIngress := b.upIngress ++ [{ txn := t, route := g.hostRoute t }] }
  else b

/-- HOST_TRANSACTION_ACCEPT (R8, R9, R10, R11). -/
def execHostTransactionAccept (t : Transaction) (s : State) : Host.Outcome State Fault Refusal :=
  s.act fun b g => b.acceptHost g t

/-! ### The head for an ADMITTED slot (R12) -/

/-- The fence answer an entry takes at allocation: the route's, or the slot's config answer for a configuration
request (R14; spec/02, Table 2-3). -/
def Settings.entryAnswer (g : Settings) (n : SlotId) (answer : Option FenceAnswer) : FenceAnswer :=
  answer.getD (g.policy n).configAnswer

/-- The pending note of a forwarded host configuration write (spec/07, R149). -/
def Bridge.noteWrite (b : Bridge) (i : BridgeTag) (n : SlotId) (body : ReqBody) : Bridge :=
  match body with
  | .cfgWrite t _ be payload =>
    let note : Note :=
      { tag := i, slot := n, bus := t.bus, function := t.function, offset := t.offset, be := be,
        payload := wordOf payload }
    { b with notes := b.notes ++ [note] }
  | .memRead _ _ _ _ => b
  | .memWrite _ _ _ _ _ => b
  | .cfgRead _ _ _ => b
  | .message _ => b
  | .unknown _ => b

/-- A non-posted host request forwarded to slot `n` under entry `i` (R12; spec/02, R30, R32). -/
def Bridge.forwardHostEntry (b : Bridge) (g : Settings) (r : Request) (n : SlotId)
    (answer : Option FenceAnswer) (i : BridgeTag) (asked : Asked) : Bridge :=
  let entry := b.newRecord g (.upstream (Request.requester r)) (.slot n) asked
    (some (g.entryAnswer n answer))
  (((b.popUpstream.allocate i n entry).pushEgress n .traffic
    (.request (Request.underTag r g i))).noteWrite i n r.body)

/-- A host request at the head for the ADMITTED slot `n`: forwarded when it has all it needs, else it waits
(R12). -/
def Bridge.forwardHost (b : Bridge) (g : Settings) (r : Request) (n : SlotId)
    (answer : Option FenceAnswer) : Bridge :=
  if b.egressHasRoom n then
    if ReqBody.posted r.body then b.popUpstream.pushEgress n .traffic (.request r)
    else
      match b.offeredEntry g n, ReqBody.asked r.body with
      | some i, some asked => b.forwardHostEntry g r n answer i asked
      | _, _ => b.noteStall g
  else b.noteStall g

/-- UPSTREAM_HEAD_FORWARD (R12). -/
def Bridge.headForward (b : Bridge) (g : Settings) : Bridge :=
  match b.hostHead with
  | some (r, .slot n answer) =>
    if ReqBody.fits r.body && b.isAdmitted n then b.forwardHost g r n answer else b
  | _ => b

/-- UPSTREAM_HEAD_FORWARD (R12). -/
def execUpstreamHeadForward (s : State) : Host.Outcome State Fault Refusal :=
  s.act Bridge.headForward

/-! ### The head for a slot that is not ADMITTED (R13, Table 1-5) -/

/-- Slot `n`'s config answer as it stood when the head reached the head (R13, R14; spec/03, Table 3-5). -/
def Bridge.headConfig (b : Bridge) (g : Settings) (n : SlotId) : FenceAnswer :=
  b.headAnswer.getD (g.policy n).configAnswer

/-- The direct item takes the head of the Upstream Ingress Queue when it is free; else the head waits (R13). -/
def Bridge.handHostHead (b : Bridge) (g : Settings) (r : Request) (answer : StandIn)
    (counted : Option SlotId) : Bridge :=
  if b.direct.isSome then b.noteStall g
  else b.popUpstream.occupyDirect r .host answer counted

/-- Whether the shadow keeps a host configuration write for a slot that is away (spec/07, R150). -/
def Bridge.captureAway (b : Bridge) (g : Settings) (n : SlotId) (t : CfgTarget) (be : BitVec 4)
    (payload : List Byte) : Bridge × Bool :=
  if (g.policy n).captureWhenAway then
    b.offerWrite g n t.bus t.function t.offset be (wordOf payload)
  else (b, false)

/-- The answer to a configuration write by whether the shadow kept it (spec/03, R69). -/
def keptAnswer (kept : Bool) : StandIn := .single (if kept then .success else .aborted)

/-- A host request for the slot `n` that is not ADMITTED (Table 1-5). -/
def Bridge.answerAway (b : Bridge) (g : Settings) (r : Request) (n : SlotId)
    (answer : Option FenceAnswer) : Bridge :=
  match r.body with
  | .memRead _ _ _ _ =>
    b.handHostHead g r (FenceAnswer.memAnswer (g.entryAnswer n answer)) (some n)
  | .cfgRead _ _ _ => b.handHostHead g r (FenceAnswer.cfgAnswer (b.headConfig g n)) (some n)
  | .cfgWrite t _ be payload =>
    if b.direct.isSome then b.noteStall g
    else
      let offered := b.captureAway g n t be payload
      offered.1.handHostHead g r (keptAnswer offered.2) (some n)
  | .memWrite _ _ _ _ _ => b.popUpstream.countDiscarded n 1
  | .message _ => b
  | .unknown _ => b

/-- UPSTREAM_HEAD_NOT_ADMITTED (R13). -/
def Bridge.headNotAdmitted (b : Bridge) (g : Settings) : Bridge :=
  match b.hostHead with
  | some (r, .slot n answer) =>
    if ReqBody.fits r.body && !(b.isAdmitted n) then b.answerAway g r n answer else b
  | _ => b

/-- UPSTREAM_HEAD_NOT_ADMITTED (R13, R14; spec/07, R150). -/
def execUpstreamHeadNotAdmitted (s : State) : Host.Outcome State Fault Refusal :=
  s.act Bridge.headNotAdmitted

/-! ### Unrouted and malformed requests (R15, R3) -/

/-- A host request that nobody takes: posted, it is discarded and counted as unrouted; non-posted, it is
answered UNSUPPORTED through the direct item (R3, R15). -/
def Bridge.turnAwayHost (b : Bridge) (g : Settings) (r : Request) : Bridge :=
  if ReqBody.posted r.body then b.popUpstream.countUnrouted
  else b.handHostHead g r (.single .unsupported) none

/-- UNROUTED_REQUEST (R15). -/
def Bridge.turnAwayUnrouted (b : Bridge) (g : Settings) : Bridge :=
  match b.hostHead with
  | some (r, .unrouted) => if ReqBody.fits r.body then b.turnAwayHost g r else b
  | _ => b

/-- UNROUTED_REQUEST (R15). -/
def execUnroutedRequest (s : State) : Host.Outcome State Fault Refusal :=
  s.act Bridge.turnAwayUnrouted

/-- The direct item takes the head of slot `n`'s Card Ingress Queue when it is free, to answer the card
(spec/03, R62). -/
def Bridge.handCardHead (b : Bridge) (n : SlotId) (r : Request) (answer : StandIn)
    (counted : SlotId) : Bridge :=
  if b.direct.isSome then b
  else (b.popCard n).occupyDirect r (.card n) answer (some counted)

/-- A card request that is not forwarded and is no violation: discarded and counted, or answered ABORTED (R3,
R21). -/
def Bridge.turnAwayCard (b : Bridge) (n : SlotId) (r : Request) : Bridge :=
  if ReqBody.posted r.body then (b.popCard n).countDiscarded n 1
  else b.handCardHead n r (.single .aborted) n

/-- MALFORMED_REQUEST (R3). -/
def Bridge.malformed (b : Bridge) (g : Settings) : Side → Bridge
  | .upstream =>
    match b.hostHead with
    | some (r, _) => if ReqBody.fits r.body then b else b.turnAwayHost g r
    | none => b
  | .slot n =>
    match b.cardHead n with
    | some (r, _) => if ReqBody.fits r.body then b else b.turnAwayCard n r
    | none => b

/-- MALFORMED_REQUEST (R3). -/
def execMalformedRequest (side : Side) (s : State) : Host.Outcome State Fault Refusal :=
  s.act fun b g => b.malformed g side

/-! ### The host's completions (R16) -/

/-- HOST_COMPLETION_MATCH: the completion is taken, or waits for room in the origin card's FIFO (R16). -/
def Bridge.matchHost (b : Bridge) (g : Settings) : Bridge :=
  match b.hostHeadCompletion with
  | some c =>
    if (b.matchBlocked g .upstream c).isSome then b.noteStall g
    else b.popUpstream.takeMatch g .upstream c
  | none => b

/-- HOST_COMPLETION_MATCH (R16; spec/02, R33 to R41). -/
def execHostCompletionMatch (s : State) : Host.Outcome State Fault Refusal :=
  s.actSettled Bridge.matchHost

end Sys2Proof.Machine
end

