-- ==== Sys2Proof/Machine/Aperture.lean ====
section
/-! DEFINITION. The management function and its aperture (spec/10, 10.1 to 10.3): the header, the layout of the
aperture, the submission of cells, and the five commands that take a MANAGEMENT request at the head. -/

namespace Sys2Proof.Machine

open Sys2Proof

/-! ### The header (R185, R186) -/

/-- The header word at an offset (Table 10-1). -/
def Header.word (h : Header) (offset : Nat) : Word :=
  match offset with
  | 0x00 => 0x4104C4A1
  | 0x04 => packWord [(boolNat h.memDecode, 1, 1)]
  | 0x08 => 0xFF000001
  | 0x10 => packWord [(4, 0, 4), (h.basePage.toNat, 12, 20)]
  | 0x14 => h.basePage.extractLsb' 20 32
  | _ => 0

/-- The header after a write of the enabled bytes at an offset: writable bits take the payload's (R185). -/
def Header.write (h : Header) (offset : Nat) (be : BitVec 4) (payload : Word) : Header :=
  let merged := mergeBytes be (h.word offset) payload
  match offset with
  | 0x04 => { h with memDecode := bitAt merged 1 }
  | 0x10 =>
    { h with basePage := h.basePage.extractLsb' 20 32 ++ merged.extractLsb' 12 20 }
  | 0x14 => { h with basePage := merged ++ h.basePage.extractLsb' 0 20 }
  | _ => h

/-- The management function answers for device 0, function 0 alone (R185). -/
def CfgTarget.isOwn (t : CfgTarget) : Bool := decide (t.device = 0) && decide (t.function = 0)

/-- The answer to a claimed configuration read (R185). -/
def Settings.cfgReadAnswer (g : Settings) (r : Request) (t : CfgTarget) : Completion :=
  if CfgTarget.isOwn t then
    cfgReadCompletion (Request.requester r) (g.header.word t.offset.toNat)
  else singleCompletion (Request.requester r) .unsupported 4 0

/-- The answer to a claimed configuration write (R185). -/
def cfgWriteAnswer (r : Request) (t : CfgTarget) : Completion :=
  singleCompletion (Request.requester r) (if CfgTarget.isOwn t then .success else .unsupported) 4 0

/-- The header after a claimed configuration write, which also gives the bus number (R185, R186). -/
def Header.takeWrite (h : Header) (t : CfgTarget) (be : BitVec 4) (payload : Word) : Header :=
  if CfgTarget.isOwn t then { h.write t.offset.toNat be payload with busNumber := some t.bus } else h

/-- The request at the head whose destination is MANAGEMENT and that fits Table 1-1. -/
def Bridge.managementHead (b : Bridge) : Option Request :=
  match b.hostHead with
  | some (r, .management) => if ReqBody.fits r.body then some r else none
  | _ => none

/-- The head is taken with a completion for the host in the bridge-origin queue (R15). -/
def Bridge.answerHead (b : Bridge) (c : Completion) : Bridge :=
  b.popUpstream.pushBridgeQueue (.completion c)

/-- MGMT_CFG_READ (R185): the answer is formed from the header as it stands. -/
def Bridge.mgmtCfgRead (b : Bridge) (g : Settings) : Bridge :=
  match b.managementHead with
  | some r =>
    match r.body with
    | .cfgRead t _ _ =>
      if b.bridgeQueueHasRoom then b.answerHead (g.cfgReadAnswer r t) else b
    | _ => b
  | none => b

/-- MGMT_CFG_READ (R185, R186). -/
def execMgmtCfgRead (s : State) : Host.Outcome State Fault Refusal :=
  s.act Bridge.mgmtCfgRead

/-- The state after a claimed configuration write is taken (R185, R186). -/
def State.takeCfgWrite (s : State) (r : Request) (t : CfgTarget) (be : BitVec 4)
    (payload : List Byte) : State :=
  { s with
    settings := { s.settings with header := s.settings.header.takeWrite t be (wordOf payload) }
    bridge := s.bridge.answerHead (cfgWriteAnswer r t) }

/-- MGMT_CFG_WRITE (R185, R186). -/
def execMgmtCfgWrite (s : State) : Host.Outcome State Fault Refusal :=
  match s.bridge.managementHead with
  | some r =>
    match r.body with
    | .cfgWrite t _ be payload =>
      if s.bridge.bridgeQueueHasRoom then .next (s.takeCfgWrite r t be payload) else .next s
    | _ => .next s
  | none => .next s

/-! ### The layout of the aperture (R187, Table 10-2) -/

/-- Code of a cell state (Table 10-9). -/
def CellState.code : CellState → Nat
  | .idle => 0
  | .inProgress _ => 1
  | .done => 2

/-- Code of a status (Table 10-9). -/
def CmdStatus.code : CmdStatus → Nat
  | .done => 0
  | .wrongState => 1
  | .badArgument => 2
  | .overlap => 3
  | .noRoom => 4
  | .badOpcode => 5

/-- Response word 8 of a cell (Table 10-9). -/
def Cell.response (c : Cell) : Word :=
  packWord [(c.state.code, 0, 2), (c.status.code, 4, 4), (boolNat c.allClear, 8, 1),
    (c.echo.toNat, 16, 16)]

/-- Word `j` of a cell: the request, the response word, the results. -/
def Cell.word (c : Cell) (j : Nat) : Word :=
  if j < 8 then c.request.toList.getD j 0
  else if j = 8 then c.response
  else c.results.toList.getD (j - 9) 0

/-- Code of a slot state (R197). -/
def Stage.code : Stage → Nat
  | .empty => 0
  | .off => 1
  | .powering _ => 2
  | .resetting _ _ => 3
  | .linking _ => 4
  | .qualifying => 5
  | .restoring _ => 6
  | .admitted => 7
  | .fenced => 8
  | .parked => 9

/-- The summary word of slot `n` (Table 10-8): bit 7 + c is the flag of the kind whose code is c. -/
def Bridge.slotSummary (b : Bridge) (n : SlotId) : Word :=
  packWord [((b.slot n).stage.code, 0, 4), ((b.slot n).flags.toNat, 8, 8)]

/-- Word `k` of the summary record (R197, Table 10-8). -/
def State.summaryWord (s : State) (k : Nat) : Word :=
  match k with
  | 0 => s.bridge.slotSummary 0
  | 1 => s.bridge.slotSummary 1
  | 2 => s.bridge.slotSummary 2
  | 3 => s.bridge.slotSummary 3
  | 4 => packWord [(s.bridge.partFlags.toNat, 0, 2), (s.bridge.lostCount, 16, 9)]
  | 5 => packWord [(s.mgmt.collisions, 0, 16), (s.bridge.unrouted, 16, 16)]
  | 6 => packWord [(s.bridge.unexpected, 0, 16)]
  | _ => 0

/-- The cell of a word index below 256. -/
def cellOfWord (w : Nat) : CellId := Fin.ofNat 16 (w / 16)

/-- Word `w` of the aperture (R187, Table 10-2). -/
def State.apertureWord (s : State) (w : Nat) : Word :=
  if w < 256 then (s.mgmt.cells.get (cellOfWord w)).word (w % 16)
  else if w < 272 then s.summaryWord (w - 256)
  else 0

/-- The bytes of the aperture from a byte offset (R187). -/
def State.apertureBytes (s : State) (offset length : Nat) : List Byte :=
  (List.range length).map fun k => byteOf (s.apertureWord ((offset + k) / 4)) ((offset + k) % 4)

/-- The byte offset of an address in the aperture: its low 12 bits, since the base is on a 4 KiB boundary
(log 31). -/
def apertureOffset (addr : Addr) : Nat := addr.toNat % 4096

/-- The whole range lies in the aperture (R187). -/
def apertureHolds (addr : Addr) (length : Nat) : Bool :=
  decide (apertureOffset addr + length ≤ 4096)

/-- The answer to a read of the aperture (R187). -/
def State.apertureAnswer (s : State) (r : Request) (addr : Addr) (length : Nat) : Completion :=
  if apertureHolds addr length then
    { status := .success, id := r.id, tag := r.tag, remaining := length,
      lower := lowerOf addr.toNat, data := s.apertureBytes (apertureOffset addr) length }
  else singleCompletion (Request.requester r) .unsupported length (lowerOf addr.toNat)

/-- APERTURE_READ (R187, R197). -/
def execApertureRead (s : State) : Host.Outcome State Fault Refusal :=
  match s.bridge.managementHead with
  | some r =>
    match r.body with
    | .memRead addr length _ _ =>
      if s.bridge.bridgeQueueHasRoom then
        .next { s with bridge := s.bridge.answerHead (s.apertureAnswer r addr length) }
      else .next s
    | _ => .next s
  | none => .next s

/-! ### Writes (R187, R188) -/

/-- One dword of a write: its word index in the aperture, its byte enables and its data. -/
structure DwordWrite where
  index : Nat
  be    : BitVec 4
  data  : Word
  deriving DecidableEq, Repr

/-- The byte enables of dword `d` of `count`: the first mask for the first dword, the last mask for the last,
all four for the rest; a single dword takes the first mask (log 8). -/
def dwordEnables (firstBe lastBe : BitVec 4) (count d : Nat) : BitVec 4 :=
  if d = 0 then firstBe else if d + 1 = count then lastBe else 0xF

/-- The dwords of a memory write in ascending address order. -/
def dwordWrites (addr : Addr) (length : Nat) (firstBe lastBe : BitVec 4) (payload : List Byte) :
    List DwordWrite :=
  (List.range (length / 4)).map fun d =>
    { index := apertureOffset addr / 4 + d
      be := dwordEnables firstBe lastBe (length / 4) d
      data := wordOf (payload.drop (4 * d)) }

/-- The dword writes word 0 of a cell and enables a byte of it: a submission (R188). -/
def DwordWrite.submits (w : DwordWrite) : Bool :=
  decide (w.index < 256) && decide (w.index % 16 = 0) && decide (w.be ≠ 0)

/-- The dword writes a request word 1 to 7 of a cell (R188). -/
def DwordWrite.stores (w : DwordWrite) : Bool :=
  decide (w.index < 256) && decide (1 ≤ w.index % 16) && decide (w.index % 16 ≤ 7)

/-- A request word replaced, byte by byte. -/
def Cell.mergeRequest (c : Cell) (j : Nat) (be : BitVec 4) (data : Word) : Cell :=
  { c with request := c.request.setIfInBounds j (mergeBytes be (c.request.toList.getD j 0) data) }

/-- A cell changed. -/
def Mgmt.setCell (m : Mgmt) (k : CellId) (c : Cell) : Mgmt := { m with cells := m.cells.set k c }

/-- Request words 1 to 7 are stored in every cell state (R188). -/
def Mgmt.storeWord (m : Mgmt) (w : DwordWrite) : Mgmt :=
  m.setCell (cellOfWord w.index)
    ((m.cells.get (cellOfWord w.index)).mergeRequest (w.index % 16) w.be w.data)

/-- A cell as its submission leaves it: the argument copy taken, results 0, status and all-clear 0, the echo
kept (R188; log 13). -/
def Cell.submitted (c : Cell) : Cell :=
  { c with
    state := .inProgress c.request
    status := .done
    allClear := false
    results := Vector.replicate 7 0 }

/-- A submission write (R188): an IDLE or DONE cell is submitted and joins the queue, an IN-PROGRESS cell counts
a collision. -/
def Mgmt.submitWord (m : Mgmt) (w : DwordWrite) : Mgmt :=
  let k := cellOfWord w.index
  match (m.cells.get k).state with
  | .inProgress _ => { m with collisions := satAdd countTop m.collisions 1 }
  | .idle =>
    { m.setCell k ((m.cells.get k).mergeRequest 0 w.be w.data).submitted with
      queue := m.queue ++ [k] }
  | .done =>
    { m.setCell k ((m.cells.get k).mergeRequest 0 w.be w.data).submitted with
      queue := m.queue ++ [k] }

/-- A whole write: request words 1 to 7 first, then the submissions in ascending address order (R188). -/
def Mgmt.writeAll (m : Mgmt) (ws : List DwordWrite) : Mgmt :=
  (ws.filter DwordWrite.submits).foldl Mgmt.submitWord
    ((ws.filter DwordWrite.stores).foldl Mgmt.storeWord m)

/-- The dwords of a memory write at the head for the aperture, when its whole range lies in it. -/
def Bridge.apertureWrites (b : Bridge) : Option (List DwordWrite) :=
  match b.managementHead with
  | some r =>
    match r.body with
    | .memWrite addr length firstBe lastBe payload =>
      if apertureHolds addr length then some (dwordWrites addr length firstBe lastBe payload)
      else none
    | _ => none
  | none => none

/-- The head is a memory write that begins in the aperture and runs past its end (R187). -/
def Bridge.apertureOverrun (b : Bridge) : Bool :=
  match b.managementHead with
  | some r =>
    match r.body with
    | .memWrite addr length _ _ _ => !(apertureHolds addr length)
    | _ => false
  | none => false

/-- The state after a write of the aperture is taken (R187, R188). -/
def State.takeWrites (s : State) (ws : List DwordWrite) : State :=
  { s with bridge := s.bridge.popUpstream, mgmt := s.mgmt.writeAll ws }

/-- CELL_SUBMIT: a write that enables a byte of word 0 of a cell (R188). -/
def execCellSubmit (s : State) : Host.Outcome State Fault Refusal :=
  match s.bridge.apertureWrites with
  | some ws => if ws.any DwordWrite.submits then .next (s.takeWrites ws) else .next s
  | none => .next s

/-- APERTURE_WRITE: a write that submits no cell, or one that runs past the end and is discarded and counted
(R187). -/
def execApertureWrite (s : State) : Host.Outcome State Fault Refusal :=
  match s.bridge.apertureWrites with
  | some ws => if ws.any DwordWrite.submits then .next s else .next (s.takeWrites ws)
  | none =>
    if s.bridge.apertureOverrun then .next { s with bridge := s.bridge.popUpstream.countUnrouted }
    else .next s

end Sys2Proof.Machine
end

