-- ==== Sys2Proof/Machine/Card.lean ====
section
/-! DEFINITION. A card's side (spec/01, 1.4): acceptance, the head of a Card Ingress Queue in every case, and
the card's completions. -/

namespace Sys2Proof.Machine

open Sys2Proof

/-! ### Acceptance (R17, R22) -/

/-- A card transaction accepted with its route and grant outcome while the queue has room (R17, R22). -/
def Bridge.acceptCard (b : Bridge) (g : Settings) (n : SlotId) (t : Transaction) : Bridge :=
  if (b.slot n).ingress.length < Config.cardIngressRoom then
    b.modSlot n fun s => { s with ingress := s.ingress ++ [{ txn := t, route := g.cardRoute n t }] }
  else b

/-- CARD_TRANSACTION_ACCEPT (R17, R8, R22). -/
def execCardTransactionAccept (n : SlotId) (t : Transaction) (s : State) :
    Host.Outcome State Fault Refusal :=
  s.act fun b g => b.acceptCard g n t

/-! ### A GRANTED request (R18, Table 1-6) -/

/-- A granted request for the host: into the slot's upstream queue, a read under entry `i` (R18). -/
def Bridge.forwardUp (b : Bridge) (g : Settings) (n : SlotId) (r : Request) : Bridge :=
  if b.upQueueHasRoom n then
    if ReqBody.posted r.body then (b.popCard n).pushUpQueue n (.request r)
    else
      match b.offeredEntry g n, ReqBody.asked r.body with
      | some i, some asked =>
        ((b.popCard n).allocate i n
          (b.newRecord g (.slot n (Request.requester r)) .upstream asked none)).pushUpQueue n
          (.request (Request.underTag r g i))
      | _, _ => b
  else b

/-- A granted request for the ADMITTED peer `m`: into its Slot Egress FIFO, a read under entry `i` of the
origin's account with the route's fence answer (R18). -/
def Bridge.forwardPeer (b : Bridge) (g : Settings) (n m : SlotId) (answer : FenceAnswer)
    (r : Request) : Bridge :=
  if b.egressHasRoom m then
    if ReqBody.posted r.body then (b.popCard n).pushEgress m .traffic (.request r)
    else
      match b.offeredEntry g n, ReqBody.asked r.body with
      | some i, some asked =>
        ((b.popCard n).allocate i n
          (b.newRecord g (.slot n (Request.requester r)) (.slot m) asked (some answer))).pushEgress m
          .traffic (.request (Request.underTag r g i))
      | _, _ => b
  else b

/-- A granted request for the peer `m` that is not ADMITTED: a write is discarded and counted for `m`, a read
is answered through the direct item (R18). -/
def Bridge.answerPeerAway (b : Bridge) (n m : SlotId) (answer : FenceAnswer) (r : Request) : Bridge :=
  if ReqBody.posted r.body then (b.popCard n).countDiscarded m 1
  else b.handCardHead n r (FenceAnswer.memAnswer answer) m

/-- A granted request at the head of slot `n` (R18, Table 1-6). -/
def Bridge.forwardCard (b : Bridge) (g : Settings) (n : SlotId) (r : Request) : CardDest → Bridge
  | .upstream => b.forwardUp g n r
  | .peer m answer =>
    if b.isAdmitted m then b.forwardPeer g n m answer r else b.answerPeerAway n m answer r

/-- CARD_HEAD_FORWARD (R18). -/
def Bridge.cardForward (b : Bridge) (g : Settings) (n : SlotId) : Bridge :=
  match b.cardHead n with
  | some (r, .checked dest true) =>
    if ReqBody.fits r.body && b.isAdmitted n then b.forwardCard g n r dest else b
  | _ => b

/-- CARD_HEAD_FORWARD (R18). -/
def execCardHeadForward (n : SlotId) (s : State) : Host.Outcome State Fault Refusal :=
  s.act fun b g => b.cardForward g n

/-! ### A REFUSED request (R19) -/

/-- The violation itself: counted, alerted, and reported as a trigger under fence-on-violation (R19). -/
def Bridge.violate (b : Bridge) (g : Settings) (n : SlotId) : Bridge :=
  let c := (b.modFault n fun f => { f with violations := satAdd countTop f.violations 1 }).raise g
    (.slot n .violation)
  if (g.policy n).fenceOnViolation then c.takeTrigger g n .violation else c

/-- A refused request at the head of slot `n`: a write is discarded, any other is handed to the direct item, and
the violation comes as it leaves the head (R19). -/
def Bridge.refuseCard (b : Bridge) (g : Settings) (n : SlotId) (r : Request) : Bridge :=
  if ReqBody.posted r.body then (b.popCard n).violate g n
  else if b.direct.isSome then b
  else (b.handCardHead n r (.single .aborted) n).violate g n

/-- CARD_HEAD_REFUSED (R19). -/
def Bridge.cardRefused (b : Bridge) (g : Settings) (n : SlotId) : Bridge :=
  match b.cardHead n with
  | some (r, .checked _ false) =>
    if ReqBody.fits r.body && b.isAdmitted n then b.refuseCard g n r else b
  | _ => b

/-- CARD_HEAD_REFUSED (R19). -/
def execCardHeadRefused (n : SlotId) (s : State) : Host.Outcome State Fault Refusal :=
  s.actSettled fun b g => b.cardRefused g n

/-! ### Messages (R20) -/

/-- One more nonfatal or correctable message of slot `n` (R20); a fatal one has no counter of its own. -/
def FaultRecord.countMessage (f : FaultRecord) : Severity → FaultRecord
  | .nonfatal => { f with nonfatal := satAdd countTop f.nonfatal 1 }
  | .correctable => { f with correctable := satAdd countTop f.correctable 1 }
  | .fatal => f

/-- The message is forwarded to the host when it leaves the head (R20). -/
def Bridge.forwardsMessage (b : Bridge) (g : Settings) (n : SlotId) : Message → Bool
  | .error .fatal => false
  | .error .nonfatal => b.isAdmitted n && decide ((g.policy n).messagePolicy = .forward)
  | .error .correctable => b.isAdmitted n && decide ((g.policy n).messagePolicy = .forward)
  | .sealed _ => b.isAdmitted n

/-- What a message does as it leaves the head beside being forwarded (R20; log 14): an ERROR is counted and
alerted, a FATAL one is reported as CARD_FATAL, and an opaque one that is not forwarded is counted as
discarded. -/
def Bridge.messageLeaves (b : Bridge) (g : Settings) (n : SlotId) (forwarded : Bool) :
    Message → Bridge
  | .error severity =>
    let c := (b.modFault n fun f => f.countMessage severity).raise g (.slot n .cardErrorMsg)
    if severity = .fatal then c.takeTrigger g n .cardFatal else c
  | .sealed _ => if forwarded then b else b.countDiscarded n 1

/-- A message at the head of slot `n` (R20): a forwarded one waits for room in the upstream queue. -/
def Bridge.handleMessage (b : Bridge) (g : Settings) (n : SlotId) (r : Request) (m : Message) :
    Bridge :=
  if b.forwardsMessage g n m then
    if b.upQueueHasRoom n then
      ((b.popCard n).pushUpQueue n (.request r)).messageLeaves g n true m
    else b
  else (b.popCard n).messageLeaves g n false m

/-- CARD_HEAD_MESSAGE (R20). -/
def Bridge.cardMessage (b : Bridge) (g : Settings) (n : SlotId) : Bridge :=
  match b.cardHead n with
  | some (r, _) =>
    match r.body with
    | .message m => b.handleMessage g n r m
    | _ => b
  | none => b

/-- CARD_HEAD_MESSAGE (R20). -/
def execCardHeadMessage (n : SlotId) (s : State) : Host.Outcome State Fault Refusal :=
  s.actSettled fun b g => b.cardMessage g n

/-! ### Requests of a slot that is not ADMITTED (R21) -/

/-- The request is a message, which R20 handles in every state. -/
def ReqBody.isMessage : ReqBody → Bool
  | .message _ => true
  | .memRead _ _ _ _ => false
  | .memWrite _ _ _ _ _ => false
  | .cfgRead _ _ _ => false
  | .cfgWrite _ _ _ _ => false
  | .unknown _ => false

/-- CARD_HEAD_NOT_ADMITTED (R21). -/
def Bridge.cardNotAdmitted (b : Bridge) (n : SlotId) : Bridge :=
  match b.cardHead n with
  | some (r, _) =>
    if ReqBody.fits r.body && !(ReqBody.isMessage r.body) && !(b.isAdmitted n) then
      b.turnAwayCard n r
    else b
  | none => b

/-- CARD_HEAD_NOT_ADMITTED (R21). -/
def execCardHeadNotAdmitted (n : SlotId) (s : State) : Host.Outcome State Fault Refusal :=
  s.act fun b _ => b.cardNotAdmitted n

/-! ### Completions (R33) -/

/-- CARD_COMPLETION_MATCH: the completion is taken, or waits for room in its destination (R33). -/
def Bridge.matchCard (b : Bridge) (g : Settings) (n : SlotId) : Bridge :=
  match b.cardHeadCompletion n with
  | some c =>
    if (b.matchBlocked g (.slot n) c).isSome then b
    else (b.popCard n).takeMatch g (.slot n) c
  | none => b

/-- CARD_COMPLETION_MATCH (R33 to R41). -/
def execCardCompletionMatch (n : SlotId) (s : State) : Host.Outcome State Fault Refusal :=
  s.actSettled fun b g => b.matchCard g n

end Sys2Proof.Machine
end

