-- ==== Sys2Proof/Machine/Cells.lean ====
section
/-! DEFINITION. The processing of the cell at the head of the Management Queue (spec/10, R189), shared by the
management commands: a command is checked and answered by a function of its argument copy and the state. -/

namespace Sys2Proof.Machine

open Sys2Proof

/-- What the checks and the effect of a command come to: refused with a status and no effect, or done with the
new settings, the new bridge and the results for words 9 to 15 (R189). -/
inductive Answer where
  | refused (status : CmdStatus)
  | done (settings : Settings) (bridge : Bridge) (results : Vector Word 7)
  deriving DecidableEq, Repr

/-- No results: words 9 to 15 stay 0. -/
def noResults : Vector Word 7 := Vector.replicate 7 0

/-- Results from a list of words, word 9 first; the words not listed are 0. -/
def resultsOf (ws : List Word) : Vector Word 7 := Vector.ofFn fun k => ws.getD k.val 0

/-- The cell at the head of the Management Queue with its argument copy. -/
def Mgmt.headCell (m : Mgmt) : Option (CellId × Vector Word 8) :=
  match m.queue with
  | [] => none
  | k :: _ =>
    match (m.cells.get k).state with
    | .inProgress arguments => some (k, arguments)
    | .idle => none
    | .done => none

/-- The cell DONE with a status, the all-clear flag, the echoed tag and its results; it leaves the queue
(R189). -/
def Mgmt.complete (m : Mgmt) (k : CellId) (arguments : Vector Word 8) (status : CmdStatus)
    (allClear : Bool) (results : Vector Word 7) : Mgmt :=
  { m.setCell k
      { m.cells.get k with
        state := .done
        status := status
        allClear := allClear
        echo := tagField arguments
        results := results } with
    queue := m.queue.tail }

/-- The processing of a cell ends with its answer; all-clear is judged after the effect (R189). -/
def State.finish (s : State) (k : CellId) (arguments : Vector Word 8) : Answer → State
  | .refused status =>
    { s with
      mgmt := s.mgmt.complete k arguments status (s.bridge.allClear (slotOf arguments)) noResults }
  | .done g b results =>
    { s with
      settings := g
      bridge := b
      mgmt := s.mgmt.complete k arguments .done (b.allClear (slotOf arguments)) results }

/-- The processing of the head cell when its opcode is this command's (R189). -/
def State.process (s : State) (opcode : Nat)
    (command : Vector Word 8 → Settings → Bridge → Answer) : Host.Outcome State Fault Refusal :=
  match s.mgmt.headCell with
  | some (k, arguments) =>
    if opcodeOf arguments = opcode then
      .next (s.finish k arguments (command arguments s.settings s.bridge))
    else .next s
  | none => .next s

/-- A command that names a slot: a slot number of 4 to 15 is BAD_ARGUMENT (R189). -/
def withSlot (arguments : Vector Word 8) (f : SlotId → Answer) : Answer :=
  match slotOf arguments with
  | some n => f n
  | none => .refused .badArgument

/-- Done with no change and no result. -/
def doneUnchanged (g : Settings) (b : Bridge) : Answer := .done g b noResults

/-- The opcodes of Table 10-4. -/
def knownOpcodes : List Nat :=
  [0x01, 0x02, 0x03, 0x04, 0x05, 0x06, 0x07, 0x08, 0x09, 0x0A, 0x10, 0x11, 0x12, 0x13, 0x20, 0x21,
    0x22, 0x23, 0x24, 0x25, 0x26, 0x28, 0x29, 0x2A]

/-- BAD_OPCODE: the head cell's opcode is not in Table 10-4 (R189). -/
def execBadOpcode (s : State) : Host.Outcome State Fault Refusal :=
  match s.mgmt.headCell with
  | some (k, arguments) =>
    if opcodeOf arguments ∈ knownOpcodes then .next s
    else .next (s.finish k arguments (.refused .badOpcode))
  | none => .next s

end Sys2Proof.Machine
end

