-- ==== Sys2Proof/Machine/ReadBack.lean ====
section
/-! DEFINITION. The read-back commands (spec/10, 10.5): READ-SLOT and its five pages, READ-ENTRY, READ-SHADOW and
READ-ERROR-LOG. A field that is absent and a bit that the tables do not list read 0 (R194). -/

namespace Sys2Proof.Machine

open Sys2Proof

/-! ### Codes (R194: from 1 in the order of the owning tables) -/

/-- Fence reasons in the order of Table 4-7. -/
def Trigger.code : Trigger → Nat
  | .suspicion => 1
  | .commanded => 2
  | .linkLost => 3
  | .cardFatal => 4
  | .completionFault => 5
  | .violation => 6
  | .headStall => 7
  | .powerLost => 8
  | .presenceLost => 9

/-- Park reasons in the order of Table 4-7. -/
def ParkReason.code : ParkReason → Nat
  | .linkTimeout => 1
  | .qualifyFail => 2
  | .restoreFail => 3
  | .shadowIncomplete => 4
  | .linkLost => 5
  | .cardFatal => 6
  | .completionFault => 7
  | .headStall => 8
  | .powerFault => 9
  | .powerLost => 10

/-- Activities in the order of Table 6-2. -/
def Activity.code : Activity → Nat
  | .issueWait _ => 1
  | .awaitAnswer _ => 2
  | .retryWait _ => 3
  | .pause _ => 4

/-- Causes of a step failure in the order of Table 6-5. -/
def StepCause.code : StepCause → Nat
  | .mismatch => 1
  | .aborted => 2
  | .unsupported => 3
  | .retriesExhausted => 4
  | .expired => 5

/-- Causes of a failed replay in the order of Table 7-5. -/
def ReplayCause.code : ReplayCause → Nat
  | .aborted => 1
  | .unsupported => 2
  | .retriesExhausted => 3
  | .expired => 4
  | .incomplete => 5

/-- Reading events in the order of Table 9-2. -/
def ReadEvent.code : ReadEvent → Nat
  | .matching => 1
  | .examine => 2
  | .search => 3
  | .standIn => 4
  | .readEntry => 5
  | .merge => 6
  | .replayTake => 7
  | .readShadow => 8
  | .itemLeft => 9

/-- The code of an optional field, 0 for absent. -/
def codeOr {α : Type} (code : α → Nat) : Option α → Nat
  | some x => code x
  | none => 0

/-- A position counted from 1 at the head, 0 when the slot is not in the queue. -/
def queuePosition (n : SlotId) (q : List SlotId) : Nat :=
  codeOr (fun k => k + 1) (q.findIdx? fun m => decide (m = n))

/-! ### READ-SLOT (R194, Table 10-5) -/

/-- Reset phase of a state: 1 WARM-HOLD, 2 OFF-WAIT. -/
def Stage.phaseCode : Stage → Nat
  | .resetting .warmHold _ => 1
  | .resetting .offWait _ => 2
  | _ => 0

/-- Phase start of a state. -/
def Stage.phaseStart : Stage → Time
  | .resetting _ start => start
  | _ => 0

/-- Two 16-bit counters in one word, the first in bits 0–15. -/
def counterPair (x y : Nat) : Word := packWord [(x, 0, 16), (y, 16, 16)]

/-- Page 0: the sequencer and the fault record. -/
def Slot.page0 (s : Slot) : List Word :=
  [packWord
      [(s.stage.code, 0, 4), (s.stage.phaseCode, 4, 2), (s.attempts, 8, 3),
        (boolNat s.restore, 11, 1), (codeOr Trigger.code s.fault.fenceReason, 12, 4),
        (codeOr ParkReason.code s.fault.parkReason, 16, 4), (s.suspicion, 20, 4),
        (boolNat s.linkUp, 24, 1)],
    s.stage.phaseStart,
    counterPair s.fault.expiries s.fault.standInPieces,
    counterPair s.fault.discarded s.fault.violations,
    counterPair s.fault.unexpected s.fault.late,
    counterPair s.fault.nonfatal s.fault.correctable,
    counterPair s.fault.fenceEvents s.fault.recoveries]

/-- The policies in the bits of SET-SLOT-POLICY word 1. -/
def SlotPolicy.word (p : SlotPolicy) : Word :=
  packWord
    [(boolNat p.autoRecover, 0, 1), (p.maxAttempts, 4, 4), (p.escalation, 8, 4),
      (boolNat p.fenceOnViolation, 12, 1), (boolNat (p.configAnswer = .error), 13, 1),
      (boolNat (p.messagePolicy = .absorb), 14, 1), (boolNat p.captureWhenAway, 15, 1),
      (boolNat (p.shadowPolicy = .fail), 16, 1), (boolNat (p.parkPower = .keep), 17, 1)]

/-- Page 1: the policies, the account, the shadow's count and the timings. -/
def Bridge.page1 (b : Bridge) (g : Settings) (n : SlotId) : List Word :=
  [SlotPolicy.word (g.policy n),
    packWord [((g.policy n).quota, 0, 8), (b.inUseCount n, 16, 9)],
    packWord [((g.policy n).shadowLimit, 0, 9), ((b.slot n).shadow.length, 16, 9)],
    packWord [((g.timing n).budgetCode, 0, 8), ((g.timing n).threshold, 8, 8)],
    packWord [((g.timing n).resetHold, 0, 16), ((g.timing n).linkTimeout, 16, 16)],
    packWord [((g.timing n).powerGoodTimeout, 0, 16), ((g.timing n).offTime, 16, 16)]]

/-- The power sequence record of a state. -/
def Stage.powerSeq : Stage → Option PowerSeq
  | .powering p => some p
  | _ => none

/-- Power phase: 1 QUEUED, 2 AWAIT-PWRGD, 3 HOLD. -/
def PowerSeq.code : PowerSeq → Nat
  | .queued => 1
  | .awaitPwrgd _ => 2
  | .hold _ _ => 3

/-- Grant time of a power sequence record, 0 when absent. -/
def PowerSeq.grantTime : PowerSeq → Time
  | .queued => 0
  | .awaitPwrgd grant => grant
  | .hold grant _ => grant

/-- Power-good time of a power sequence record, 0 when absent. -/
def PowerSeq.powerGoodTime : PowerSeq → Time
  | .queued => 0
  | .awaitPwrgd _ => 0
  | .hold _ powerGood => powerGood

/-- The lines, the inversions and the queue positions of a slot. -/
def Bridge.lineWord (b : Bridge) (g : Settings) (n : SlotId) : Word :=
  let s := b.slot n
  let v := (g.slot n).inversions
  packWord
    [(boolNat s.filtered.prsnt, 0, 1), (boolNat s.filtered.pwrgd, 1, 1),
      (boolNat s.filtered.attn, 2, 1), (boolNat (b.outputLevel n .pwren), 3, 1),
      (boolNat (b.outputLevel n .srst), 4, 1), (boolNat (b.outputLevel n .ind), 5, 1),
      (boolNat v.prsnt, 8, 1), (boolNat v.pwrgd, 9, 1), (boolNat v.attn, 10, 1),
      (boolNat v.pwren, 11, 1), (boolNat v.srst, 12, 1), (boolNat v.ind, 13, 1),
      (codeOr PowerSeq.code s.stage.powerSeq, 16, 2), (queuePosition n b.powerQueue, 20, 3),
      (queuePosition n b.qualQueue, 24, 3)]

/-- The engine's state while it serves the slot. -/
def Bridge.engineWord (b : Bridge) (n : SlotId) : Word :=
  match b.run with
  | some r =>
    if r.slot = n then
      packWord
        [(1, 0, 1), (r.index, 4, 4), (boolNat (r.half = some .read), 8, 1), (r.activity.code, 12, 3),
          (r.retryCount, 16, 8)]
    else 0
  | none => 0

/-- The result record: outcome, failing step, cause. -/
def QualResult.word : QualResult → Word
  | .pass => packWord [(1, 0, 2)]
  | .fail step cause _ => packWord [(2, 0, 2), (step, 4, 4), (cause.code, 8, 3)]

/-- The observed value of a result record, 0 when absent. -/
def QualResult.observed : QualResult → Word
  | .pass => 0
  | .fail _ _ observed => observed.getD 0

/-- An optional record's word, 0 when absent. -/
def wordOr {α : Type} (word : α → Word) : Option α → Word
  | some x => word x
  | none => 0

/-- The settings of the stored script. -/
def Script.word (x : Script) : Word :=
  packWord [(x.length, 0, 8), (x.retryLimit, 8, 8), (x.retryInterval, 16, 8)]

/-- Page 2: the lines, the power sequence, the engine, the result and the script. -/
def Bridge.page2 (b : Bridge) (g : Settings) (n : SlotId) : List Word :=
  let s := b.slot n
  [b.lineWord g n, wordOr PowerSeq.grantTime s.stage.powerSeq,
    wordOr PowerSeq.powerGoodTime s.stage.powerSeq, b.engineWord n, wordOr QualResult.word s.qualResult,
    wordOr QualResult.observed s.qualResult, Script.word (g.slot n).script]

/-- The shadow's flag and the active replay of a slot. -/
def Slot.replayWord (s : Slot) : Word :=
  match s.stage.replay with
  | some r =>
    packWord
      [(boolNat s.incomplete, 0, 1), (1, 1, 1), (r.activity.code, 2, 2), (r.retryCount, 8, 8),
        (r.cursor, 16, 9)]
  | none => packWord [(boolNat s.incomplete, 0, 1)]

/-- Replay result: outcome, cause, function, offset. -/
def ReplayResult.word : ReplayResult → Word
  | .done _ => packWord [(1, 0, 2)]
  | .failed cause key _ =>
    match key with
    | some (function, offset) =>
      packWord
        [(2, 0, 2), (cause.code, 4, 3), (function.toNat, 8, 3), (offset.toNat, 16, 12)]
    | none => packWord [(2, 0, 2), (cause.code, 4, 3)]

/-- Writes sent of a replay result. -/
def ReplayResult.sentWord : ReplayResult → Word
  | .done sent => packWord [(sent, 0, 16)]
  | .failed _ _ sent => packWord [(sent, 0, 16)]

/-- An exclusion range. -/
def Exclusion.word (e : Exclusion) : Word :=
  packWord [(e.first.toNat, 0, 12), (e.last.toNat, 16, 12), (boolNat e.valid, 31, 1)]

/-- Page 3: the shadow, the replay and the exclusions. -/
def Bridge.page3 (b : Bridge) (g : Settings) (n : SlotId) : List Word :=
  let s := b.slot n
  [s.replayWord, wordOr ReplayResult.word s.replayResult, wordOr ReplayResult.sentWord s.replayResult]
    ++ (g.slot n).exclusions.toList.map Exclusion.word

/-- Page 4: the part policies in the layout of SET-PART-POLICY words 1 to 7. -/
def Settings.page4 (g : Settings) : List Word :=
  let p := g.part
  [packWord [(p.pieceSize, 0, 9), (p.inrushCount, 12, 3), (p.inrushWindow, 16, 10)],
    packWord [(p.burst, 0, 8), (p.quietInterval, 8, 8), (p.stallLimit, 16, 8),
      (p.hostAnswerCode, 24, 8)],
    packWord [(p.holdLimit, 0, 10), (g.alert.slotEnables.toNat, 16, 8),
      (g.alert.partEnables.toNat, 24, 2)],
    g.alert.address.extractLsb' 0 32, g.alert.address.extractLsb' 32 32, g.alert.data]

/-- A page of slot `n`; pages above 4 are not valid. -/
def Bridge.page (b : Bridge) (g : Settings) (n : SlotId) (k : Nat) : Option (List Word) :=
  match k with
  | 0 => some (b.slot n).page0
  | 1 => some (b.page1 g n)
  | 2 => some (b.page2 g n)
  | 3 => some (b.page3 g n)
  | 4 => some g.page4
  | _ => none

/-- READ-SLOT (R194). -/
def readSlot (a : Vector Word 8) (g : Settings) (b : Bridge) : Answer :=
  withSlot a fun n =>
    match b.page g n (bitField (a.get 1) 0 4) with
    | some ws => .done g b (resultsOf ws)
    | none => .refused .badArgument

/-- READ_SLOT (R194; spec/05, R123; spec/06, R144; spec/07, R163). -/
def execReadSlot (s : State) : Host.Outcome State Fault Refusal := s.process 0x20 readSlot

/-! ### READ-ENTRY (R195, Table 10-6; spec/02, R50) -/

/-- State of an IN-USE entry. -/
def Phase.code : Phase → Nat
  | .opened _ => 1
  | .stoodIn _ _ _ => 2
  | .orphaned _ => 3

/-- Kind of an entry. -/
def Asked.code : Asked → Nat
  | .memRead _ _ _ => 0
  | .cfgRead _ _ => 1
  | .cfgWrite _ _ => 2

/-- Origin of an entry. -/
def Origin.code : Origin → Nat
  | .upstream _ => 0
  | .bridge _ => 1
  | .slot n _ => 4 + n.val

/-- Target of an entry. -/
def Side.code : Side → Nat
  | .upstream => 0
  | .slot n => 4 + n.val

/-- The deadline of an OPEN entry, the hold expiry of the others. -/
def Phase.time : Phase → Time
  | .opened deadline => deadline
  | .stoodIn hold _ _ => hold
  | .orphaned hold => hold

/-- The work item is LEFT. -/
def Phase.hasLeft : Phase → Bool
  | .stoodIn _ listed _ => !listed
  | .opened _ => false
  | .orphaned _ => false

/-- The release is pending. -/
def Phase.releasePending : Phase → Bool
  | .stoodIn _ _ pending => pending
  | .opened _ => false
  | .orphaned _ => false

/-- Word 9 of an IN-USE entry. -/
def EntryRecord.stateWord (r : EntryRecord) (account : SlotId) : Word :=
  packWord
    [(r.phase.code, 0, 3), (r.asked.code, 4, 2), (r.origin.code, 8, 3), (Side.code r.target, 12, 3),
      (account.val, 16, 2), (boolNat r.answer.isSome, 18, 1),
      (boolNat (decide (r.answer = some .error)), 19, 1), (boolNat r.phase.hasLeft, 20, 1),
      (boolNat r.phase.releasePending, 21, 1)]

/-- A requester ID as 16 bits: bus in bits 8–15, device in 3–7, function in 0–2 (log 10). -/
def ReqId.bits (x : ReqId) : Nat := 256 * x.bus.toNat + 8 * x.device.toNat + x.function.toNat

/-- Word 10: the original requester, absent for origin BRIDGE. -/
def Origin.requesterWord (o : Origin) : Word :=
  match o.requester with
  | some q => packWord [(ReqId.bits q.id, 0, 16), (q.tag.toNat, 16, 16)]
  | none => 0

/-- A configuration target in a word. -/
def CfgTarget.word (t : CfgTarget) : Word :=
  packWord [(t.bus.toNat, 0, 8), (t.device.toNat, 8, 5), (t.function.toNat, 16, 3),
    (t.offset.toNat, 20, 12)]

/-- Words 11 and 12: the address, or the configuration target and byte enables. -/
def Asked.targetWords : Asked → List Word
  | .memRead addr _ _ => [addr.extractLsb' 0 32, addr.extractLsb' 32 32]
  | .cfgRead t be => [CfgTarget.word t, packWord [(be.toNat, 0, 4)]]
  | .cfgWrite t be => [CfgTarget.word t, packWord [(be.toNat, 0, 4)]]

/-- Length and bytes delivered of an entry. -/
def Asked.extent : Asked → Nat × Nat
  | .memRead _ length delivered => (length, delivered)
  | .cfgRead _ _ => (4, 0)
  | .cfgWrite _ _ => (4, 0)

/-- Word 13: the length with the bytes delivered, or with the bridge purpose. -/
def EntryRecord.extentWord (r : EntryRecord) : Word :=
  match r.origin with
  | .bridge (.script k) => packWord [(r.asked.extent.1, 0, 13), (k, 16, 9)]
  | .bridge (.replay p) => packWord [(r.asked.extent.1, 0, 13), (p, 16, 9), (1, 31, 1)]
  | .upstream _ => packWord [(r.asked.extent.1, 0, 13), (r.asked.extent.2, 16, 13)]
  | .slot _ _ => packWord [(r.asked.extent.1, 0, 13), (r.asked.extent.2, 16, 13)]

/-- Words 9 to 15 of an IN-USE entry. -/
def EntryRecord.words (r : EntryRecord) (account : SlotId) : List Word :=
  [r.stateWord account, r.origin.requesterWord] ++ r.asked.targetWords
    ++ [r.extentWord, r.phase.time, r.allocatedAt]

/-- Words 9 to 15 of an index by its status. -/
def EntryStatus.words : EntryStatus → List Word
  | .free => []
  | .inUse account r => r.words account
  | .lost account => [packWord [(4, 0, 3), (account.val, 16, 2)]]

/-- READ-ENTRY: the record is read, which may correct it or make the entry LOST, and the words are those of the
entry as that leaves it (R195; spec/02, R50). -/
def readEntry (a : Vector Word 8) (g : Settings) (b : Bridge) : Answer :=
  let index := bitField (a.get 1) 0 16
  if h : index < 256 then
    let i : BridgeTag := ⟨index, h⟩
    let c := (b.readEntry g i .readEntry).1
    .done g (c.settle g) (resultsOf (c.status i).words)
  else .refused .badArgument

/-- READ_ENTRY (R195; spec/02, R50). -/
def execReadEntry (s : State) : Host.Outcome State Fault Refusal := s.process 0x21 readEntry

/-! ### READ-SHADOW (R195, Table 10-6; spec/07, R163) -/

/-- The record count and the INCOMPLETE flag of a slot. -/
def Slot.shadowWord (s : Slot) : Word :=
  packWord [(s.shadow.length, 0, 9), (boolNat s.incomplete, 12, 1)]

/-- Words 9 to 11 of a record returned. -/
def Slot.shadowWords (s : Slot) (x : ShadowKey) (union : BitVec 4) (value : Word) : List Word :=
  [packWord
      [(s.shadow.length, 0, 9), (boolNat s.incomplete, 12, 1), (1, 15, 1), (x.number.val, 16, 9)],
    packWord [(x.function.toNat, 0, 3), (union.toNat, 8, 4), (x.offset.toNat, 16, 12)], value]

/-- READ-SHADOW at a position of slot `n`: an uncorrectable record is removed first (spec/07, R163). -/
def readShadowAt (g : Settings) (b : Bridge) (n : SlotId) (position : Nat) : Answer :=
  match (b.slot n).shadow[position]? with
  | some x =>
    match b.readShadow g n position x .readShadow with
    | (c, some (union, value)) => .done g c (resultsOf ((c.slot n).shadowWords x union value))
    | (c, none) =>
      .done g ((c.replayRecheck g n).settle g) (resultsOf [(c.slot n).shadowWord])
  | none => .done g b (resultsOf [(b.slot n).shadowWord])

/-- READ-SHADOW (spec/07, R163). -/
def readShadow (a : Vector Word 8) (g : Settings) (b : Bridge) : Answer :=
  withSlot a fun n =>
    if bitField (a.get 1) 0 16 ≤ 383 then readShadowAt g b n (bitField (a.get 1) 0 16)
    else .refused .badArgument

/-- READ_SHADOW (R195; spec/07, R163). -/
def execReadShadow (s : State) : Host.Outcome State Fault Refusal := s.process 0x22 readShadow

/-! ### READ-ERROR-LOG (R195, Table 10-6; spec/09, R183) -/

/-- Words 9 to 11 of a latched location. -/
def Latched.words (x : Latched) : List Word :=
  match x.word with
  | .ort index =>
    [packWord [(1, 0, 1), (x.event.code, 4, 4), (x.slot.val, 8, 2), (index.val, 16, 9)], 0, x.time]
  | .shadow number function offset =>
    [packWord
        [(1, 0, 1), (1, 1, 1), (x.event.code, 4, 4), (x.slot.val, 8, 2), (number.val, 16, 9)],
      packWord [(function.toNat, 0, 3), (offset.toNat, 16, 12)], x.time]

/-- Word 12: the counters. -/
def ErrorLog.countWord (l : ErrorLog) : Word :=
  packWord [(l.overflow, 0, 8), (boolNat l.announced, 8, 1), (l.corrected, 16, 16)]

/-- Words 9 to 12 of the error log. -/
def ErrorLog.words (l : ErrorLog) : List Word :=
  match l.latched with
  | some x => x.words ++ [l.countWord]
  | none => [0, 0, 0, l.countWord]

/-- READ-ERROR-LOG (spec/09, R183). -/
def readErrorLog (_ : Vector Word 8) (g : Settings) (b : Bridge) : Answer :=
  .done g b (resultsOf b.log.words)

/-- READ_ERROR_LOG (R195; spec/09, R183). -/
def execReadErrorLog (s : State) : Host.Outcome State Fault Refusal := s.process 0x28 readErrorLog

end Sys2Proof.Machine
end

