-- ==== Sys2Proof/Machine/SlotCommands.lean ====
section
/-! DEFINITION. The slot commands (spec/10, Table 10-4, codes 0x10 to 0x13; spec/04, 4.8) and the commands that
delete, clear and reclaim (codes 0x23 to 0x26, 0x29 and 0x2A). -/

namespace Sys2Proof.Machine

open Sys2Proof

/-- Done with an effect on the bridge alone, what is left settled (log 6), and no result. -/
def doneBridge (g : Settings) (b : Bridge) : Answer := .done g (b.settle g) noResults

/-! ### POWER-ON, POWER-OFF, FENCE, RECOVER (spec/04, R104, Table 4-8) -/

/-- A slot in OFF is powered on (spec/04, R85). -/
def Bridge.powerOnSlot (b : Bridge) (g : Settings) (n : SlotId) (restore : Bool) : Bridge :=
  (b.modSlot n fun s => { s with restore := restore, attempts := 0 }).enterPowering g n

/-- POWER-ON (spec/04, R85). -/
def powerOn (a : Vector Word 8) (g : Settings) (b : Bridge) : Answer :=
  withSlot a fun n =>
    match (b.slot n).stage with
    | .off => doneBridge g (b.powerOnSlot g n (bitAt (a.get 1) 0))
    | _ => .refused .wrongState

/-- POWER_ON (spec/04, R85; spec/10, R193). -/
def execPowerOn (s : State) : Host.Outcome State Fault Refusal := s.process 0x10 powerOn

/-- A slot is powered off (spec/04, R88). -/
def Bridge.powerOffSlot (b : Bridge) (g : Settings) (n : SlotId) : Bridge :=
  (b.leave g n).enterUnpowered g n .off

/-- POWER-OFF (spec/04, R88). -/
def powerOff (a : Vector Word 8) (g : Settings) (b : Bridge) : Answer :=
  withSlot a fun n =>
    match (b.slot n).stage with
    | .empty => .refused .wrongState
    | .off => .refused .wrongState
    | _ => doneBridge g (b.powerOffSlot g n)

/-- POWER_OFF (spec/04, R88; spec/10, R193). -/
def execPowerOff (s : State) : Host.Outcome State Fault Refusal := s.process 0x11 powerOff

/-- FENCE (spec/10, R193). -/
def fence (a : Vector Word 8) (g : Settings) (b : Bridge) : Answer :=
  withSlot a fun n =>
    match (b.slot n).stage with
    | .admitted => doneBridge g (b.takeTrigger g n .commanded)
    | _ => .refused .wrongState

/-- FENCE (spec/04, R79, R80; spec/10, R193). -/
def execFence (s : State) : Host.Outcome State Fault Refusal := s.process 0x12 fence

/-- RECOVER in PARKED: the attempt counter starts again, and recovery starts (spec/04, R99). -/
def Bridge.recoverParked (b : Bridge) (g : Settings) (n : SlotId) : Bridge :=
  (b.modSlot n fun s => { s with attempts := 0 }).startRecovery g n

/-- RECOVER (spec/04, R93, R99). -/
def recover (a : Vector Word 8) (g : Settings) (b : Bridge) : Answer :=
  withSlot a fun n =>
    match (b.slot n).stage with
    | .fenced => doneBridge g (b.startRecovery g n)
    | .parked => doneBridge g (b.recoverParked g n)
    | _ => .refused .wrongState

/-- RECOVER (spec/04, R93, R99; spec/10, R193). -/
def execRecover (s : State) : Host.Outcome State Fault Refusal := s.process 0x13 recover

/-! ### The shadow (spec/07, R160, R162) -/

/-- The record with a key leaves the slot's list; a key not in the list changes nothing (R162). -/
def Bridge.deleteKey (b : Bridge) (g : Settings) (n : SlotId) (function : BitVec 3)
    (offset : BitVec 12) : Bridge :=
  match keyPosition function offset (b.slot n).shadow with
  | some position => (b.removeRecord n position).replayRecheck g n
  | none => b

/-- DELETE-SHADOW-RECORD (R162). -/
def deleteShadowRecord (a : Vector Word 8) (g : Settings) (b : Bridge) : Answer :=
  withSlot a fun n =>
    if inRange (bitField (a.get 1) 0 4) 0 7 && offsetFits (bitField (a.get 2) 0 16) then
      doneBridge g (b.deleteKey g n ((a.get 1).extractLsb' 0 3) ((a.get 2).extractLsb' 0 12))
    else .refused .badArgument

/-- DELETE_SHADOW_RECORD (spec/07, R160, R162). -/
def execDeleteShadowRecord (s : State) : Host.Outcome State Fault Refusal :=
  s.process 0x23 deleteShadowRecord

/-- The slot's list emptied, INCOMPLETE cleared, the cursor of an active replay set to 0 (R160, R162). -/
def Bridge.emptyShadow (b : Bridge) (g : Settings) (n : SlotId) : Bridge :=
  (b.modSlot n fun s =>
    { s with shadow := [], incomplete := false, stage := s.stage.mapCursor fun _ => 0 }).replayRecheck
    g n

/-- CLEAR-SHADOW (R162). -/
def clearShadow (a : Vector Word 8) (g : Settings) (b : Bridge) : Answer :=
  withSlot a fun n => doneBridge g (b.emptyShadow g n)

/-- CLEAR_SHADOW (spec/07, R160, R162). -/
def execClearShadow (s : State) : Host.Outcome State Fault Refusal := s.process 0x24 clearShadow

/-! ### Faults, alerts, the error log, lost entries -/

/-- The fault record cleared but for recoveries, and the suspicion counter with it (spec/04, R103; spec/03,
R60). -/
def Bridge.clearFaultsOf (b : Bridge) (n : SlotId) : Bridge :=
  b.modSlot n fun s =>
    { s with
      fault := { FaultRecord.reset with recoveries := s.fault.recoveries }
      suspicion := 0
      quietRef := b.now }

/-- CLEAR-FAULTS (spec/04, R103). -/
def clearFaults (a : Vector Word 8) (g : Settings) (b : Bridge) : Answer :=
  withSlot a fun n => doneUnchanged g (b.clearFaultsOf n)

/-- CLEAR_FAULTS (spec/04, R103). -/
def execClearFaults (s : State) : Host.Outcome State Fault Refusal := s.process 0x25 clearFaults

/-- The named flags of a slot and the named part flags cleared (spec/08, R175). -/
def Bridge.clearFlags (b : Bridge) (n : SlotId) (kinds : BitVec 8) (part : BitVec 2) : Bridge :=
  { b.modSlot n fun s => { s with flags := s.flags &&& ~~~ kinds } with
    partFlags := b.partFlags &&& ~~~ part }

/-- CLEAR-ALERTS (spec/08, R175). -/
def clearAlerts (a : Vector Word 8) (g : Settings) (b : Bridge) : Answer :=
  withSlot a fun n =>
    doneUnchanged g (b.clearFlags n ((a.get 1).extractLsb' 0 8) ((a.get 1).extractLsb' 8 2))

/-- CLEAR_ALERTS (spec/08, R175). -/
def execClearAlerts (s : State) : Host.Outcome State Fault Refusal := s.process 0x26 clearAlerts

/-- CLEAR-ERROR-LOG (spec/09, R182). -/
def clearErrorLog (_ : Vector Word 8) (g : Settings) (b : Bridge) : Answer :=
  doneUnchanged g { b with log := ErrorLog.reset }

/-- CLEAR_ERROR_LOG (spec/09, R182). -/
def execClearErrorLog (s : State) : Host.Outcome State Fault Refusal := s.process 0x29 clearErrorLog

/-- A LOST index becomes FREE (spec/02, R47). -/
def OrtWord.reclaimed (w : OrtWord) : OrtWord :=
  match w.status with
  | .lost _ => { w with status := .free }
  | .free => w
  | .inUse _ _ => w

/-- RECLAIM-LOST (spec/02, R47; spec/09, R184). -/
def reclaimLost (_ : Vector Word 8) (g : Settings) (b : Bridge) : Answer :=
  doneUnchanged g { b with ort := b.ort.map OrtWord.reclaimed }

/-- RECLAIM_LOST (spec/02, R47). -/
def execReclaimLost (s : State) : Host.Outcome State Fault Refusal := s.process 0x2A reclaimLost

end Sys2Proof.Machine
end

