-- ==== Sys2Proof/Machine/Sideband.lean ====
section
/-! DEFINITION. The sideband controller (spec/05): the inputs and their filters, the power sequence, the inrush
budget, the timed ends of RESETTING and POWERING, and the indicator's blink (spec/04, R105). -/

namespace Sys2Proof.Machine

open Sys2Proof

/-! ### Inputs (R106, R108) -/

/-- An input of slot `n` is looked at again: a difference from the filtered level starts a change unless one is
under way, and no difference removes the change start (R108). -/
def Bridge.sense (b : Bridge) (g : Settings) (n : SlotId) (line : InputLine) : Bridge :=
  let s := b.slot n
  let start : Option Time :=
    if b.unfiltered g n line = s.filtered.get line then none
    else
      match s.changeStart.get line with
      | some t => some t
      | none => some b.now
  b.modSlot n fun s => { s with changeStart := s.changeStart.set line start }

/-- INPUT_PIN_CHANGE: the pin stands at a level, high or low (R106, R108). -/
def Bridge.pinChange (b : Bridge) (g : Settings) (n : SlotId) (line : InputLine) (high : Bool) :
    Bridge :=
  (b.modSlot n fun s => { s with pins := s.pins.set line high }).sense g n line

/-- INPUT_PIN_CHANGE (R106, R108). -/
def execInputPinChange (n : SlotId) (line : InputLine) (high : Bool) (s : State) :
    Host.Outcome State Fault Refusal :=
  s.act fun b g => b.pinChange g n line high

/-- A change of an input is complete: the new level has held for the filter time (R108). The value is the level
the filtered level takes. -/
def Bridge.lineDue (b : Bridge) (g : Settings) (n : SlotId) (line : InputLine) : Option Bool :=
  match (b.slot n).changeStart.get line with
  | some t =>
    if reached b.now (t + filterTime line) then
      if b.unfiltered g n line = (b.slot n).filtered.get line then none
      else some (b.unfiltered g n line)
    else none
  | none => none

/-- The filtered level takes a value and the change start is removed (R108). -/
def Bridge.takeFiltered (b : Bridge) (n : SlotId) (line : InputLine) (level : Bool) : Bridge :=
  b.modSlot n fun s =>
    { s with
      filtered := s.filtered.set line level
      changeStart := s.changeStart.set line none }

/-- A slot in EMPTY enters OFF on debounced presence, with the entry actions of R77 (spec/04, R83). -/
def Bridge.presence (b : Bridge) (g : Settings) (n : SlotId) : Bridge :=
  match (b.slot n).stage with
  | .empty => ((b.setStage n .off).srstEntry g n).raise g (.slot n .presenceChange)
  | _ => b

/-- DEBOUNCED_PRESENCE (R108, R109; spec/04, R83). -/
def Bridge.debouncedPresence (b : Bridge) (g : Settings) (n : SlotId) : Bridge :=
  if b.lineDue g n .prsnt = some true then (b.takeFiltered n .prsnt true).presence g n else b

/-- DEBOUNCED_PRESENCE (R109; spec/04, R83). -/
def execDebouncedPresence (n : SlotId) (s : State) : Host.Outcome State Fault Refusal :=
  s.actSettled fun b g => b.debouncedPresence g n

/-- DEBOUNCED_PRESENCE_LOSS (R108, R109; spec/04, R84). -/
def Bridge.debouncedLoss (b : Bridge) (g : Settings) (n : SlotId) : Bridge :=
  if b.lineDue g n .prsnt = some false then (b.takeFiltered n .prsnt false).presenceLoss g n else b

/-- DEBOUNCED_PRESENCE_LOSS (R109; spec/04, R84). -/
def execDebouncedPresenceLoss (n : SlotId) (s : State) : Host.Outcome State Fault Refusal :=
  s.actSettled fun b g => b.debouncedLoss g n

/-- ATTENTION_PRESS (R110). -/
def Bridge.attentionPress (b : Bridge) (g : Settings) (n : SlotId) : Bridge :=
  if b.lineDue g n .attn = some true then
    (b.takeFiltered n .attn true).raise g (.slot n .attention)
  else b

/-- ATTENTION_PRESS (R110). -/
def execAttentionPress (n : SlotId) (s : State) : Host.Outcome State Fault Refusal :=
  s.act fun b g => b.attentionPress g n

/-- ATTENTION_RELEASE (R110): no alert. -/
def Bridge.attentionRelease (b : Bridge) (g : Settings) (n : SlotId) : Bridge :=
  if b.lineDue g n .attn = some false then b.takeFiltered n .attn false else b

/-- ATTENTION_RELEASE (R110). -/
def execAttentionRelease (n : SlotId) (s : State) : Host.Outcome State Fault Refusal :=
  s.act fun b g => b.attentionRelease g n

/-! ### Power-good (R113, R116) -/

/-- The grant time of a slot that awaits power-good. -/
def Stage.awaitGrant : Stage → Option Time
  | .powering (.awaitPwrgd grant) => some grant
  | _ => none

/-- Power-good is taken: the phase is HOLD from now, and the watch begins (R113). -/
def Bridge.enterHold (b : Bridge) (n : SlotId) (grant : Time) : Bridge :=
  (b.setStage n (.powering (.hold grant b.now))).modSlot n fun s => { s with watch := true }

/-- POWER_GOOD_TAKEN: filtered PWRGD rises in AWAIT-PWRGD (R113). -/
def Bridge.powerGoodTaken (b : Bridge) (g : Settings) (n : SlotId) : Bridge :=
  match b.lineDue g n .pwrgd, (b.slot n).stage.awaitGrant with
  | some true, some grant => (b.takeFiltered n .pwrgd true).enterHold n grant
  | _, _ => b

/-- POWER_GOOD_TAKEN (R113). -/
def execPowerGoodTaken (n : SlotId) (s : State) : Host.Outcome State Fault Refusal :=
  s.act fun b g => b.powerGoodTaken g n

/-- POWER_GOOD_LOSS: filtered PWRGD falls while the watch runs (R116; spec/04, R87). -/
def Bridge.powerGoodLoss (b : Bridge) (g : Settings) (n : SlotId) : Bridge :=
  if b.lineDue g n .pwrgd = some false ∧ (b.slot n).watch = true then
    (b.takeFiltered n .pwrgd false).powerLoss g n
  else b

/-- POWER_GOOD_LOSS (R116; spec/04, R87). -/
def execPowerGoodLoss (n : SlotId) (s : State) : Host.Outcome State Fault Refusal :=
  s.actSettled fun b g => b.powerGoodLoss g n

/-- A due change of PWRGD is one of the two above: a rise in AWAIT-PWRGD, or a fall while watched. -/
def Bridge.pwrgdReported (b : Bridge) (n : SlotId) (level : Bool) : Bool :=
  if level then (b.slot n).stage.awaitGrant.isSome else (b.slot n).watch

/-- UNWATCHED_PWRGD_CHANGE: the filtered level changes and nothing is reported (R108, R116; log 20). -/
def Bridge.unwatchedPwrgd (b : Bridge) (g : Settings) (n : SlotId) : Bridge :=
  match b.lineDue g n .pwrgd with
  | some level => if b.pwrgdReported n level then b else b.takeFiltered n .pwrgd level
  | none => b

/-- UNWATCHED_PWRGD_CHANGE (R108, R116). -/
def execUnwatchedPwrgdChange (n : SlotId) (s : State) : Host.Outcome State Fault Refusal :=
  s.act fun b g => b.unwatchedPwrgd g n

/-! ### Grants and the inrush history (R112, R119 to R121) -/

/-- How many remembered grants count as within the window (R120). -/
def Bridge.grantsInWindow (b : Bridge) (g : Settings) : Nat :=
  (b.inrush.filter fun t => decide ((b.now - t).toNat < 1000 * g.part.inrushWindow)).length

/-- The slot that may be granted now: the head of the Power Queue, under the budget (R121). -/
def Bridge.grantDue (b : Bridge) (g : Settings) : Option SlotId :=
  match b.powerQueue with
  | n :: _ => if b.grantsInWindow g < g.part.inrushCount then some n else none
  | [] => none

/-- A time joins the history; the oldest of four is dropped (R120). -/
def rememberGrant (history : List Time) (t : Time) : List Time :=
  (if history.length < Config.inrushDepth then history else history.tail) ++ [t]

/-- The phase a grant leads to: HOLD at once when filtered PWRGD is already asserted (R112, R113). -/
def Bridge.afterGrant (b : Bridge) (n : SlotId) : Bridge :=
  if (b.slot n).filtered.pwrgd then b.enterHold n b.now
  else b.setStage n (.powering (.awaitPwrgd b.now))

/-- The grant (R112). -/
def Bridge.grantPower (b : Bridge) (n : SlotId) : Bridge :=
  (({ b with powerQueue := b.powerQueue.tail, inrush := rememberGrant b.inrush b.now }).modSlot n
    fun s => { s with pwren := true }).afterGrant n

/-- POWER_GRANT (R112, R121). -/
def Bridge.powerGrant (b : Bridge) (g : Settings) : Bridge :=
  match b.grantDue g with
  | some n => b.grantPower n
  | none => b

/-- POWER_GRANT (R112, R113, R120, R121). -/
def execPowerGrant (s : State) : Host.Outcome State Fault Refusal := s.act Bridge.powerGrant

/-- A remembered grant is 1000 ms old (R120). -/
def Bridge.grantStale (b : Bridge) (t : Time) : Bool := reached b.now (t + msec 1000)

/-- INRUSH_HISTORY_EXPIRY (R120). -/
def Bridge.expireInrush (b : Bridge) : Bridge :=
  { b with inrush := b.inrush.filter fun t => !(b.grantStale t) }

/-- INRUSH_HISTORY_EXPIRY (R120). -/
def execInrushHistoryExpiry (s : State) : Host.Outcome State Fault Refusal :=
  s.act fun b _ => b.expireInrush

/-! ### Timed ends (R113, R114; spec/04, R95, R96) -/

/-- The reset hold after power-good has ended (R113). -/
def Bridge.sequenceDue (b : Bridge) (g : Settings) (n : SlotId) : Bool :=
  match (b.slot n).stage with
  | .powering (.hold _ powerGood) => reached b.now (powerGood + msec (g.timing n).resetHold)
  | _ => false

/-- SEQUENCE_COMPLETE (R113; spec/04, R86, R89). -/
def Bridge.sequenceComplete (b : Bridge) (g : Settings) (n : SlotId) : Bridge :=
  if b.sequenceDue g n then b.enterLinking n else b

/-- SEQUENCE_COMPLETE (R113; spec/04, R86). -/
def execSequenceComplete (n : SlotId) (s : State) : Host.Outcome State Fault Refusal :=
  s.act fun b g => b.sequenceComplete g n

/-- The power-good timeout has been reached in AWAIT-PWRGD (R114). -/
def Bridge.powerTimeoutDue (b : Bridge) (g : Settings) (n : SlotId) : Bool :=
  match (b.slot n).stage.awaitGrant with
  | some grant => reached b.now (grant + msec (g.timing n).powerGoodTimeout)
  | none => false

/-- POWER_GOOD_TIMEOUT (R114; spec/04, R86). -/
def Bridge.powerGoodTimeout (b : Bridge) (g : Settings) (n : SlotId) : Bridge :=
  if b.powerTimeoutDue g n then b.powerFault g n else b

/-- POWER_GOOD_TIMEOUT (R114; spec/04, R86). -/
def execPowerGoodTimeout (n : SlotId) (s : State) : Host.Outcome State Fault Refusal :=
  s.actSettled fun b g => b.powerGoodTimeout g n

/-- The reset hold of a warm reset has ended (spec/04, R95). -/
def Bridge.warmHoldDue (b : Bridge) (g : Settings) (n : SlotId) : Bool :=
  match (b.slot n).stage with
  | .resetting .warmHold start => reached b.now (start + msec (g.timing n).resetHold)
  | _ => false

/-- WARM_HOLD_END (spec/04, R95, R89). -/
def Bridge.warmHoldEnd (b : Bridge) (g : Settings) (n : SlotId) : Bridge :=
  if b.warmHoldDue g n then b.enterLinking n else b

/-- WARM_HOLD_END (spec/04, R95). -/
def execWarmHoldEnd (n : SlotId) (s : State) : Host.Outcome State Fault Refusal :=
  s.act fun b g => b.warmHoldEnd g n

/-- The off time has ended (spec/04, R96). -/
def Bridge.offTimeDue (b : Bridge) (g : Settings) (n : SlotId) : Bool :=
  match (b.slot n).stage with
  | .resetting .offWait start => reached b.now (start + msec (g.timing n).offTime)
  | _ => false

/-- OFF_TIME_END (spec/04, R96). -/
def Bridge.offTimeEnd (b : Bridge) (g : Settings) (n : SlotId) : Bridge :=
  if b.offTimeDue g n then b.enterPowering g n else b

/-- OFF_TIME_END (spec/04, R96). -/
def execOffTimeEnd (n : SlotId) (s : State) : Host.Outcome State Fault Refusal :=
  s.actSettled fun b g => b.offTimeEnd g n

/-! ### The indicator (spec/04, R105) -/

/-- The end of the present half of a blink, when the slot's indicator blinks (R105). -/
def Slot.halfEnd (s : Slot) : Option Time :=
  match s.stage.indPattern, s.ind.since with
  | .blink half, some since => some (since + msec half)
  | _, _ => none

/-- A half of slot `n`'s blink has ended; its end (R105). -/
def Bridge.blinkDue (b : Bridge) (n : SlotId) : Option Time :=
  match (b.slot n).halfEnd with
  | some t => if reached b.now t then some t else none
  | none => none

/-- IND_BLINK_TOGGLE: the next half starts where the last one ended (R105; log 24). -/
def Bridge.blinkToggle (b : Bridge) (n : SlotId) : Bridge :=
  match b.blinkDue n with
  | some t => b.modSlot n fun s => { s with ind := { lit := !s.ind.lit, since := some t } }
  | none => b

/-- IND_BLINK_TOGGLE (spec/04, R105). -/
def execIndBlinkToggle (n : SlotId) (s : State) : Host.Outcome State Fault Refusal :=
  s.act fun b _ => b.blinkToggle n

end Sys2Proof.Machine
end

