-- ==== Sys2Proof/Machine/Resets.lean ====
section
/-! DEFINITION. The two resets: power-on reset (the reset clause of every owning rule; spec/10, Table 10-3) and
the upstream reset (spec/04, 4.6, and the rules it names). -/

namespace Sys2Proof.Machine

open Sys2Proof

/-! ### Power-on reset -/

/-- An ORT word after power-on reset: FREE, with what is stuck in its cell still stuck (log 28). -/
def OrtWord.powerOn (w : OrtWord) : OrtWord := { status := .free, flips := 0, stuck := w.stuck }

/-- A shadow word after power-on reset: of a free record, with what is stuck still stuck (log 12, log 28). -/
def ShadowWord.powerOn (w : ShadowWord) : ShadowWord :=
  { union := 0, value := 0, flips := 0, stuck := w.stuck }

/-- A slot after power-on reset: its input pins stand as they are driven (log 28). -/
def Slot.powerOn (s : Slot) : Slot := { Slot.reset with pins := s.pins }

/-- The bridge in power-on reset. -/
def Bridge.powerOn (b : Bridge) : Bridge :=
  { Bridge.reset with
    ort := b.ort.map OrtWord.powerOn
    shadowWords := b.shadowWords.map ShadowWord.powerOn
    slots := b.slots.map Slot.powerOn
    env := b.env }

/-- The three inputs of slot `n` looked at. -/
def Bridge.senseSlot (b : Bridge) (g : Settings) (n : SlotId) : Bridge :=
  ((b.sense g n .prsnt).sense g n .pwrgd).sense g n .attn

/-- The inputs of every slot looked at, as the part leaves reset (spec/05, R108; log 11). -/
def Bridge.senseAll (b : Bridge) (g : Settings) : Bridge :=
  allSlots.foldl (fun c n => c.senseSlot g n) b

/-- POWER_ON_RESET (spec/02, R48; spec/10, R190 and Table 10-3, and the owning rules). -/
def execPowerOnReset (s : State) : Host.Outcome State Fault Refusal :=
  .next
    { pending := s.pending
      settings := Settings.reset
      bridge := s.bridge.powerOn.senseAll Settings.reset
      mgmt := Mgmt.reset }

/-! ### Upstream reset (spec/04, R101) -/

/-- The settings after an upstream reset: bus number not taken, decode and base 0, alert settings cleared; the
rest kept (spec/08, R172; spec/10, R185, R186, Table 10-3). -/
def Settings.upstreamReset (g : Settings) : Settings :=
  { g with header := Header.reset, alert := AlertSettings.reset }

/-- An ORT word after an upstream reset: an IN-USE entry goes to FREE, a LOST one stays (spec/02, R49). -/
def OrtWord.upstreamReset (w : OrtWord) : OrtWord :=
  match w.status with
  | .inUse _ _ => { w with status := .free, flips := 0 }
  | .free => w
  | .lost _ => w

/-- What an upstream reset empties in a slot whatever its state (spec/07, R164; spec/08, R167). -/
def Slot.upstreamReset (s : Slot) : Slot := { s with upQueue := [], shadow := [], incomplete := false }

/-- The stores, queues and lists after an upstream reset (spec/01, R11, R24; spec/02, R49; spec/03, R74;
spec/06, R143; spec/07, R164; spec/08, R166 to R168, R173). -/
def Bridge.emptied (b : Bridge) : Bridge :=
  { b with
    upIngress := []
    stall := none
    headAnswer := none
    ort := b.ort.map OrtWord.upstreamReset
    workList := []
    direct := none
    qualQueue := []
    run := none
    notes := []
    bridgeQueue := []
    pointer := 0
    burst := 0
    sendList := []
    slots := b.slots.map Slot.upstreamReset }

/-- The attempt counter set to 0 and the restore flag cleared (R101). -/
def Bridge.clearRecovery (b : Bridge) (n : SlotId) : Bridge :=
  b.modSlot n fun s => { s with attempts := 0, restore := false }

/-- What the sequencer of slot `n` does on an upstream reset (R101). -/
def Bridge.resetSlot (g : Settings) (b : Bridge) (n : SlotId) : Bridge :=
  match (b.slot n).stage with
  | .linking _ => (b.clearRecovery n).enterResetting g n
  | .qualifying => (b.clearRecovery n).enterResetting g n
  | .restoring _ => (b.clearRecovery n).enterResetting g n
  | .admitted => (b.clearRecovery n).enterResetting g n
  | .fenced => (b.clearRecovery n).enterResetting g n
  | .resetting _ _ => (b.clearRecovery n).enterResetting g n
  | .powering _ => b.clearRecovery n
  | .empty => b
  | .off => b
  | .parked => b

/-- The bridge after an upstream reset: the ORT's reset first, so the sequencers find no entry (R101). -/
def Bridge.upstreamReset (b : Bridge) (g : Settings) : Bridge :=
  allSlots.foldl (Bridge.resetSlot g) b.emptied

/-- UPSTREAM_RESET (R101; spec/02, R49; spec/10, R190 and Table 10-3). -/
def execUpstreamReset (s : State) : Host.Outcome State Fault Refusal :=
  .next
    { pending := s.pending
      settings := s.settings.upstreamReset
      bridge := s.bridge.upstreamReset s.settings.upstreamReset
      mgmt := Mgmt.reset }

end Sys2Proof.Machine
end

