-- ==== Sys2Proof/Machine/Tables.lean ====
section
/-! DEFINITION. The commands that load tables and settings (spec/10, Table 10-4, codes 0x01 to 0x0A): each is a
function of the argument copy, the settings and the bridge, checked in the order of R189. -/

namespace Sys2Proof.Machine

open Sys2Proof

/-! ### Windows and bus ranges (spec/01, R6, R7) -/

/-- The window index: bits 0–5 of word 1. -/
def windowIndex (a : Vector Word 8) : Nat := bitField (a.get 1) 0 6

/-- The window that SET-WINDOW carries (Table 10-4). -/
def windowOf (a : Vector Word 8) (owner : SlotId) : Window :=
  { owner := owner
    base := addr64 (a.get 2) (a.get 3)
    limit := addr64 (a.get 4) (a.get 5)
    kind := if bitAt (a.get 1) 8 then .grant (accessOf (bitField (a.get 1) 12 2))
      else .decode (answerOf (bitAt (a.get 1) 9)) }

/-- Base and limit are on 4 KiB boundaries and in order (R6). -/
def Window.boundsFit (w : Window) : Bool :=
  decide (w.base.toNat % 4096 = 0) && decide (w.limit.toNat % 4096 = 4095)
    && decide (w.base.toNat ≤ w.limit.toNat)

/-- The window conflicts with a valid entry other than entry `i` (R6). -/
def Settings.overlapsOther (g : Settings) (i : Nat) (w : Window) : Bool :=
  (List.finRange 48).any fun j =>
    decide (j.val ≠ i) &&
      match g.windows.get j with
      | some v => Window.conflicts v w
      | none => false

/-- Entry `i` of the window table replaced. -/
def Settings.putWindow (g : Settings) (i : Nat) (w : Option Window) : Settings :=
  { g with windows := g.windows.setIfInBounds i w }

/-- SET-WINDOW (R5, R6). -/
def setWindow (a : Vector Word 8) (g : Settings) (b : Bridge) : Answer :=
  withSlot a fun owner =>
    let w := windowOf a owner
    if 47 < windowIndex a || !(Window.boundsFit w) then .refused .badArgument
    else if g.overlapsOther (windowIndex a) w then .refused .overlap
    else doneUnchanged (g.putWindow (windowIndex a) (some w)) b

/-- SET_WINDOW (spec/01, R6; spec/10, R189, R191). -/
def execSetWindow (s : State) : Host.Outcome State Fault Refusal := s.process 0x01 setWindow

/-- CLEAR-WINDOW (R6). -/
def clearWindow (a : Vector Word 8) (g : Settings) (b : Bridge) : Answer :=
  if 47 < windowIndex a then .refused .badArgument
  else doneUnchanged (g.putWindow (windowIndex a) none) b

/-- CLEAR_WINDOW (spec/01, R6). -/
def execClearWindow (s : State) : Host.Outcome State Fault Refusal := s.process 0x02 clearWindow

/-- The bus range that SET-BUS-RANGE carries (Table 10-4). -/
def busRangeOf (a : Vector Word 8) : BusRange :=
  { first := (a.get 1).extractLsb' 0 8, last := (a.get 1).extractLsb' 8 8,
    valid := bitAt (a.get 1) 16 }

/-- Two valid ranges share a bus number (R6, R7). -/
def BusRange.conflicts (x y : BusRange) : Bool :=
  x.valid && y.valid && decide (x.first.toNat ≤ y.last.toNat)
    && decide (y.first.toNat ≤ x.last.toNat)

/-- The range conflicts with that of a slot other than `n` (R7). -/
def Settings.busConflict (g : Settings) (n : SlotId) (x : BusRange) : Bool :=
  allSlots.any fun m => decide (m ≠ n) && BusRange.conflicts (g.slot m).busRange x

/-- The range after SET-BUS-RANGE: loaded, or made invalid with its bounds kept (R7; log 12). -/
def BusRange.loaded (old new : BusRange) : BusRange :=
  if new.valid then new else { old with valid := false }

/-- SET-BUS-RANGE (R7). A first bus above the last is refused whatever the valid argument (log 27). -/
def setBusRange (a : Vector Word 8) (g : Settings) (b : Bridge) : Answer :=
  withSlot a fun n =>
    let x := busRangeOf a
    if x.last.toNat < x.first.toNat then .refused .badArgument
    else if g.busConflict n x then .refused .overlap
    else
      doneUnchanged
        (g.modSlot n fun s => { s with busRange := BusRange.loaded s.busRange x }) b

/-- SET_BUS_RANGE (spec/01, R7). -/
def execSetBusRange (s : State) : Host.Outcome State Fault Refusal := s.process 0x03 setBusRange

/-! ### Timings and policies (R192) -/

/-- The timings that SET-SLOT-TIMING carries, before clamping (Table 10-4). -/
def timingOf (a : Vector Word 8) : SlotTiming :=
  { budgetCode := bitField (a.get 1) 0 8
    threshold := bitField (a.get 1) 8 8
    resetHold := bitField (a.get 2) 0 16
    linkTimeout := bitField (a.get 2) 16 16
    powerGoodTimeout := bitField (a.get 3) 0 16
    offTime := bitField (a.get 3) 16 16 }

/-- No timing is refused (R192; spec/03, R53, R58; spec/05, R118; spec/06, R128). -/
def SlotTiming.fits (t : SlotTiming) : Bool :=
  inRange t.budgetCode 0 15 && inRange t.threshold 0 15 && inRange t.resetHold 1 1000
    && inRange t.linkTimeout 10 1000 && inRange t.powerGoodTimeout 10 500
    && inRange t.offTime 100 2000

/-- The clamped timings (spec/03, R53, R58). -/
def SlotTiming.clamped (t : SlotTiming) : SlotTiming :=
  { t with budgetCode := clampCode t.budgetCode, threshold := max t.threshold 1 }

/-- SET-SLOT-TIMING (R192). -/
def setSlotTiming (a : Vector Word 8) (g : Settings) (b : Bridge) : Answer :=
  withSlot a fun n =>
    if SlotTiming.fits (timingOf a) then
      doneUnchanged (g.modSlot n fun s => { s with timing := SlotTiming.clamped (timingOf a) }) b
    else .refused .badArgument

/-- SET_SLOT_TIMING (R192). -/
def execSetSlotTiming (s : State) : Host.Outcome State Fault Refusal := s.process 0x04 setSlotTiming

/-- The policies that SET-SLOT-POLICY carries (Table 10-4). -/
def policyOf (a : Vector Word 8) : SlotPolicy :=
  { autoRecover := bitAt (a.get 1) 0
    maxAttempts := bitField (a.get 1) 4 4
    escalation := bitField (a.get 1) 8 4
    fenceOnViolation := bitAt (a.get 1) 12
    configAnswer := answerOf (bitAt (a.get 1) 13)
    messagePolicy := if bitAt (a.get 1) 14 then .absorb else .forward
    captureWhenAway := bitAt (a.get 1) 15
    shadowPolicy := if bitAt (a.get 1) 16 then .fail else .proceed
    parkPower := if bitAt (a.get 1) 17 then .keep else .off
    quota := bitField (a.get 2) 0 8
    shadowLimit := bitField (a.get 2) 16 9 }

/-- No policy is out of its range (R192; spec/04, R100; spec/02, R29; spec/07, R147). -/
def SlotPolicy.fits (p : SlotPolicy) : Bool :=
  inRange p.maxAttempts 1 7 && inRange p.escalation 1 7 && inRange p.quota 0 48
    && inRange p.shadowLimit 0 384

/-- A quantity of the slots' policies with slot `n`'s replaced. -/
def Settings.withNew (g : Settings) (f : SlotPolicy → Nat) (n : SlotId) (new : Nat) (m : SlotId) :
    Nat :=
  if m = n then new else f (g.policy m)

/-- The account check of R29 fails: the excesses against the new quotas exceed the new shared pool. -/
def Bridge.accountsExceed (b : Bridge) (g : Settings) (n : SlotId) (quota : Nat) : Bool :=
  let quotas := g.withNew SlotPolicy.quota n quota
  decide (sharedPool quotas < b.poolUse quotas)

/-- The limit checks of spec/07, R147 fail. -/
def Bridge.limitsExceed (b : Bridge) (g : Settings) (n : SlotId) (limit : Nat) : Bool :=
  decide (384 < sumSlots (g.withNew SlotPolicy.shadowLimit n limit))
    || decide (limit < (b.slot n).shadow.length)

/-- The request at the head for slot `n` keeps the config answer that stood when it reached the head, since a change
applies only to requests that reach it after the command (spec/01, R13, R14). -/
def Bridge.keepHeadAnswer (b : Bridge) (n : SlotId) (old : SlotPolicy) : Bridge :=
  match b.hostHead with
  | some (_, .slot m _) =>
    if m = n then { b with headAnswer := some (b.headAnswer.getD old.configAnswer) } else b
  | _ => b

/-- What new policies do at once: a request at the head keeps its config answer, the attempt counter is cut to the
new maximum (spec/04, R100), and a change of park power from KEEP to OFF turns PWREN off in PARKED (R98). -/
def Bridge.applyPolicy (b : Bridge) (n : SlotId) (old new : SlotPolicy) : Bridge :=
  let c := (b.keepHeadAnswer n old).modSlot n fun s =>
    { s with attempts := min s.attempts new.maxAttempts }
  if (b.slot n).stage = .parked ∧ old.parkPower = .keep ∧ new.parkPower = .off then c.pwrenOff n
  else c

/-- SET-SLOT-POLICY (R192). -/
def setSlotPolicy (a : Vector Word 8) (g : Settings) (b : Bridge) : Answer :=
  withSlot a fun n =>
    let p := policyOf a
    if !(SlotPolicy.fits p) then .refused .badArgument
    else if b.accountsExceed g n p.quota || b.limitsExceed g n p.shadowLimit then .refused .noRoom
    else doneUnchanged (g.modSlot n fun s => { s with policy := p }) (b.applyPolicy n (g.policy n) p)

/-- SET_SLOT_POLICY (R192; spec/02, R29; spec/04, R98, R100; spec/07, R147). -/
def execSetSlotPolicy (s : State) : Host.Outcome State Fault Refusal := s.process 0x05 setSlotPolicy

/-- The part policies that SET-PART-POLICY carries, before clamping (Table 10-4). -/
def partPolicyOf (a : Vector Word 8) : PartPolicy :=
  { pieceSize := bitField (a.get 1) 0 9
    inrushCount := bitField (a.get 1) 12 3
    inrushWindow := bitField (a.get 1) 16 10
    burst := bitField (a.get 2) 0 8
    quietInterval := bitField (a.get 2) 8 8
    stallLimit := bitField (a.get 2) 16 8
    hostAnswerCode := bitField (a.get 2) 24 8
    holdLimit := bitField (a.get 3) 0 10 }

/-- The alert settings that SET-PART-POLICY carries (Table 10-4). -/
def alertOf (a : Vector Word 8) : AlertSettings :=
  { address := addr64 (a.get 4) (a.get 5)
    data := a.get 6
    slotEnables := (a.get 3).extractLsb' 16 8
    partEnables := (a.get 3).extractLsb' 24 2 }

/-- No part policy is refused (R192). -/
def PartPolicy.fits (p : PartPolicy) : Bool :=
  (decide (p.pieceSize = 64) || decide (p.pieceSize = 128) || decide (p.pieceSize = 256))
    && inRange p.inrushCount 1 4 && inRange p.inrushWindow 50 1000 && inRange p.quietInterval 1 255
    && inRange p.stallLimit 1 100 && inRange p.hostAnswerCode 0 15 && inRange p.holdLimit 10 1000

/-- The clamped part policies (spec/03, R53; spec/08, R169). -/
def PartPolicy.clamped (p : PartPolicy) : PartPolicy :=
  { p with burst := min (max p.burst 1) 16, hostAnswerCode := clampCode p.hostAnswerCode }

/-- The two lowest bits of the alert address are 0 (spec/08, R172). -/
def AlertSettings.fits (x : AlertSettings) : Bool := decide (x.address.toNat % 4 = 0)

/-- SET-PART-POLICY (R192). -/
def setPartPolicy (a : Vector Word 8) (g : Settings) (b : Bridge) : Answer :=
  if PartPolicy.fits (partPolicyOf a) && AlertSettings.fits (alertOf a) then
    doneUnchanged { g with part := PartPolicy.clamped (partPolicyOf a), alert := alertOf a } b
  else .refused .badArgument

/-- SET_PART_POLICY (R192; spec/08, R172). -/
def execSetPartPolicy (s : State) : Host.Outcome State Fault Refusal := s.process 0x06 setPartPolicy

/-! ### Sideband polarities (spec/05, R106, R107) -/

/-- The inversions that SET-SIDEBAND carries (Table 10-4). -/
def inversionsOf (a : Vector Word 8) : Inversions :=
  { prsnt := bitAt (a.get 1) 0
    pwrgd := bitAt (a.get 1) 1
    attn := bitAt (a.get 1) 2
    pwren := bitAt (a.get 1) 3
    srst := bitAt (a.get 1) 4
    ind := bitAt (a.get 1) 5 }

/-- SET-SIDEBAND: the inputs are looked at again under the new polarities (R106, R107). -/
def setSideband (a : Vector Word 8) (g : Settings) (b : Bridge) : Answer :=
  withSlot a fun n =>
    let loaded := g.modSlot n fun s => { s with inversions := inversionsOf a }
    doneUnchanged loaded (b.senseSlot loaded n)

/-- SET_SIDEBAND (spec/05, R106, R107). -/
def execSetSideband (s : State) : Host.Outcome State Fault Refusal := s.process 0x07 setSideband

/-! ### Scripts (spec/06, R132, R134) -/

/-- The step that LOAD-SCRIPT-STEP carries, or nothing for a kind not in Table 6-3 (Table 10-4). -/
def stepOf (a : Vector Word 8) : Option ScriptStep :=
  let function := (a.get 1).extractLsb' 8 3
  let offset := (a.get 2).extractLsb' 0 12
  match bitField (a.get 1) 4 4 with
  | 0 =>
    some (.readExpect function offset (a.get 3) (a.get 4)
      (if bitAt (a.get 1) 12 then .notEqual else .equal))
  | 1 => some (.write function offset ((a.get 1).extractLsb' 16 4) (a.get 4))
  | 2 => some (.echo function offset (a.get 3) (a.get 4))
  | 3 => some (.wait (bitField (a.get 1) 24 8))
  | _ => none

/-- The function and offset arguments of LOAD-SCRIPT-STEP are in range, whatever the kind (R134; log 32). -/
def stepTargetFits (a : Vector Word 8) : Bool :=
  inRange (bitField (a.get 1) 8 4) 0 7 && offsetFits (bitField (a.get 2) 0 16)

/-- A WAIT has a duration (R134). -/
def ScriptStep.durationFits : ScriptStep → Bool
  | .wait d => decide (d ≠ 0)
  | .readExpect _ _ _ _ _ => true
  | .write _ _ _ _ => true
  | .echo _ _ _ _ => true

/-- LOAD-SCRIPT-STEP (R134). -/
def loadScriptStep (a : Vector Word 8) (g : Settings) (b : Bridge) : Answer :=
  withSlot a fun n =>
    let position := bitField (a.get 1) 0 4
    match stepOf a with
    | some step =>
      if inRange position 0 11 && stepTargetFits a && ScriptStep.durationFits step then
        doneUnchanged
          (g.modSlot n fun s =>
            { s with script :=
                { s.script with steps := s.script.steps.setIfInBounds position step } }) b
      else .refused .badArgument
    | none => .refused .badArgument

/-- LOAD_SCRIPT_STEP (spec/06, R134). -/
def execLoadScriptStep (s : State) : Host.Outcome State Fault Refusal :=
  s.process 0x08 loadScriptStep

/-- SET-SCRIPT (R134). -/
def setScript (a : Vector Word 8) (g : Settings) (b : Bridge) : Answer :=
  withSlot a fun n =>
    let length := bitField (a.get 1) 0 8
    let interval := bitField (a.get 1) 16 8
    if inRange length 0 12 && decide (interval ≠ 0) then
      doneUnchanged
        (g.modSlot n fun s =>
          { s with script :=
              { s.script with
                length := length
                retryLimit := bitField (a.get 1) 8 8
                retryInterval := interval } }) b
    else .refused .badArgument

/-- SET_SCRIPT (spec/06, R134). -/
def execSetScript (s : State) : Host.Outcome State Fault Refusal := s.process 0x09 setScript

/-! ### Exclusions (spec/07, R153) -/

/-- The exclusion that SET-EXCLUSION carries (Table 10-4). -/
def exclusionOf (a : Vector Word 8) : Exclusion :=
  { first := (a.get 2).extractLsb' 0 12, last := (a.get 2).extractLsb' 16 12,
    valid := bitAt (a.get 1) 8 }

/-- The offsets and the range number are in range, and in order when the valid argument is set (R153). -/
def exclusionFits (a : Vector Word 8) : Bool :=
  inRange (bitField (a.get 1) 0 4) 0 3 && offsetFits (bitField (a.get 2) 0 16)
    && offsetFits (bitField (a.get 2) 16 16)
    && (!(bitAt (a.get 1) 8) || decide (bitField (a.get 2) 0 16 ≤ bitField (a.get 2) 16 16))

/-- The range after SET-EXCLUSION: loaded, or made invalid with its bounds kept (R153; log 12). -/
def Exclusion.loaded (old new : Exclusion) : Exclusion :=
  if new.valid then new else { old with valid := false }

/-- SET-EXCLUSION (R153). -/
def setExclusion (a : Vector Word 8) (g : Settings) (b : Bridge) : Answer :=
  withSlot a fun n =>
    if exclusionFits a then
      let k : Fin 4 := Fin.ofNat 4 (bitField (a.get 1) 0 4)
      doneUnchanged
        (g.modSlot n fun s =>
          { s with exclusions :=
              s.exclusions.set k (Exclusion.loaded (s.exclusions.get k) (exclusionOf a)) }) b
    else .refused .badArgument

/-- SET_EXCLUSION (spec/07, R153). -/
def execSetExclusion (s : State) : Host.Outcome State Fault Refusal := s.process 0x0A setExclusion

end Sys2Proof.Machine
end

