-- ==== Sys2Proof/Machine/Link.lean ====
section
/-! DEFINITION. Link events and the link timer (spec/06, 6.1 and 6.2), the qualification engine's own steps
(spec/06, 6.5 and 6.6) and the replay's (spec/07, 7.3). -/

namespace Sys2Proof.Machine

open Sys2Proof

/-! ### Link events (spec/06, R124 to R128) -/

/-- The link status of slot `n` set (R124). -/
def Bridge.setLink (b : Bridge) (n : SlotId) (up : Bool) : Bridge :=
  b.modSlot n fun s => { s with linkUp := up }

/-- LINK_UP (R124, R125). -/
def Bridge.linkRise (b : Bridge) (n : SlotId) : Bridge :=
  match (b.slot n).stage with
  | .linking _ => (b.setLink n true).enterQualifying n
  | _ => b.setLink n true

/-- LINK_UP (R124, R125, R130). -/
def execLinkUp (n : SlotId) (s : State) : Host.Outcome State Fault Refusal :=
  s.actSettled fun b _ => b.linkRise n

/-- A LINK-DOWN in this state is reported as LINK_LOST (R126, Table 6-1). -/
def Stage.reportsLinkLost : Stage → Bool
  | .admitted => true
  | .qualifying => true
  | .restoring _ => true
  | .fenced => true
  | .linking _ => false
  | .empty => false
  | .off => false
  | .powering _ => false
  | .resetting _ _ => false
  | .parked => false

/-- LINK_DOWN (R124, R126). -/
def Bridge.linkFall (b : Bridge) (g : Settings) (n : SlotId) : Bridge :=
  if (b.slot n).stage.reportsLinkLost then (b.setLink n false).takeTrigger g n .linkLost
  else b.setLink n false

/-- LINK_DOWN (R124, R126). -/
def execLinkDown (n : SlotId) (s : State) : Host.Outcome State Fault Refusal :=
  s.actSettled fun b g => b.linkFall g n

/-- The link timeout has been reached in LINKING (R127, R128). -/
def Bridge.linkTimeoutDue (b : Bridge) (g : Settings) (n : SlotId) : Bool :=
  match (b.slot n).stage with
  | .linking start => reached b.now (start + msec (g.timing n).linkTimeout)
  | _ => false

/-- LINK_TIMEOUT (R127). -/
def Bridge.linkTimeout (b : Bridge) (g : Settings) (n : SlotId) : Bridge :=
  if b.linkTimeoutDue g n then b.attemptFailure g n (some .linkTimeout) else b

/-- LINK_TIMEOUT (R127; spec/04, R97). -/
def execLinkTimeout (n : SlotId) (s : State) : Host.Outcome State Fault Refusal :=
  s.actSettled fun b g => b.linkTimeout g n

/-! ### The engine's steps (spec/06, R135, R140, R141) -/

/-- The engine waits to send the request of its step: the run and the request (R135). -/
def Bridge.engineRequest (b : Bridge) (g : Settings) : Option (Run × ReqBody) :=
  match b.run with
  | some r =>
    match r.activity, r.step? with
    | .issueWait _, some step => (step.request g r.slot r.half).map fun body => (r, body)
    | _, _ => none
  | none => none

/-- SCRIPT_REQUEST_SEND: sent when an entry and FIFO room are there at one moment (R135). -/
def Bridge.scriptSend (b : Bridge) (g : Settings) : Bridge :=
  match b.engineRequest g with
  | some (r, body) =>
    match b.offeredEntry g r.slot, ReqBody.asked body with
    | some i, some asked =>
      if b.egressHasRoom r.slot then
        { b.sendOwn g r.slot i body asked (.script r.index) with
          run := some { r with activity := .awaitAnswer i } }
      else b
    | _, _ => b
  | none => b

/-- SCRIPT_REQUEST_SEND (R135). -/
def execScriptRequestSend (s : State) : Host.Outcome State Fault Refusal := s.act Bridge.scriptSend

/-- The run whose wait to send has lasted one completion budget (R135). -/
def Bridge.scriptIssueDue (b : Bridge) (g : Settings) : Option Run :=
  match b.run with
  | some r =>
    match r.activity with
    | .issueWait ready => if reached b.now (ready + g.slotBudget r.slot) then some r else none
    | _ => none
  | none => none

/-- SCRIPT_ISSUE_TIMEOUT: the step fails EXPIRED (R135). -/
def Bridge.scriptIssueTimeout (b : Bridge) (g : Settings) : Bridge :=
  match b.scriptIssueDue g with
  | some r => b.stepFail g r .expired none
  | none => b

/-- SCRIPT_ISSUE_TIMEOUT (R135, R142). -/
def execScriptIssueTimeout (s : State) : Host.Outcome State Fault Refusal :=
  s.actSettled Bridge.scriptIssueTimeout

/-- The run whose retry interval has ended (R140). -/
def Bridge.scriptRetryDue (b : Bridge) : Option Run :=
  match b.run with
  | some r =>
    match r.activity with
    | .retryWait resume => if reached b.now resume then some r else none
    | _ => none
  | none => none

/-- SCRIPT_RETRY_RESUME: the same request is ready to be sent again (R140). -/
def Bridge.scriptRetryResume (b : Bridge) : Bridge :=
  match b.scriptRetryDue with
  | some r => { b with run := some { r with activity := .issueWait b.now } }
  | none => b

/-- SCRIPT_RETRY_RESUME (R140). -/
def execScriptRetryResume (s : State) : Host.Outcome State Fault Refusal :=
  s.act fun b _ => b.scriptRetryResume

/-- The run whose WAIT step has ended (R141). -/
def Bridge.scriptWaitDue (b : Bridge) : Option Run :=
  match b.run with
  | some r =>
    match r.activity with
    | .pause resume => if reached b.now resume then some r else none
    | _ => none
  | none => none

/-- SCRIPT_WAIT_END: the WAIT step passes (R141). -/
def Bridge.scriptWaitEnd (b : Bridge) (g : Settings) : Bridge :=
  match b.scriptWaitDue with
  | some r => b.stepPass g r
  | none => b

/-- SCRIPT_WAIT_END (R141). -/
def execScriptWaitEnd (s : State) : Host.Outcome State Fault Refusal :=
  s.actSettled Bridge.scriptWaitEnd

/-! ### The replay's steps (spec/07, R156 to R158) -/

/-- The replay of slot `n`, when it waits to send. -/
def Bridge.replayIssuing (b : Bridge) (n : SlotId) : Option (Replay × Time) :=
  match (b.slot n).stage.replay with
  | some r =>
    match r.activity with
    | .issueWait ready => some (r, ready)
    | _ => none
  | none => none

/-- The request of a write copy (Table 7-6). -/
def Settings.replayWrite (g : Settings) (n : SlotId) (w : WriteCopy) : ReqBody :=
  .cfgWrite (g.ownTarget n w.function w.offset) 4 w.union (bytesOf w.value)

/-- A write copy is sent under entry `i`, and the replay awaits its answer (R155, R156). -/
def Bridge.sendCopy (b : Bridge) (g : Settings) (n : SlotId) (i : BridgeTag) (r : Replay)
    (w : WriteCopy) : Bridge :=
  (b.sendOwn g n i (g.replayWrite n w) (.cfgWrite (g.ownTarget n w.function w.offset) w.union)
    (.replay w.position)).setReplay n
    { r with activity := .awaitAnswer i, copy := some w, sent := satAdd countTop r.sent 1 }

/-- The record at the cursor is taken and sent; an uncorrectable one is removed and nothing is sent (R156). -/
def Bridge.takeAndSend (b : Bridge) (g : Settings) (n : SlotId) (i : BridgeTag) (r : Replay)
    (x : ShadowKey) : Bridge :=
  match b.readShadow g n r.cursor x .replayTake with
  | (c, some (union, value)) =>
    c.sendCopy g n i { r with cursor := r.cursor + 1 }
      { position := r.cursor, function := x.function, offset := x.offset, union := union,
        value := value }
  | (c, none) => c.replayNext g n

/-- REPLAY_WRITE_SEND: the record at the cursor, or on a retry the write copy, is sent when an entry and FIFO
room are there at one moment (R156, R158). -/
def Bridge.replaySend (b : Bridge) (g : Settings) (n : SlotId) : Bridge :=
  match b.replayIssuing n, b.offeredEntry g n with
  | some (r, _), some i =>
    if b.egressHasRoom n then
      if r.retryCount = 0 then
        match (b.slot n).shadow[r.cursor]? with
        | some x => b.takeAndSend g n i r x
        | none => b
      else
        match r.copy with
        | some w => b.sendCopy g n i r w
        | none => b
    else b
  | _, _ => b

/-- REPLAY_WRITE_SEND (R155, R156, R158). -/
def execReplayWriteSend (n : SlotId) (s : State) : Host.Outcome State Fault Refusal :=
  s.actSettled fun b g => b.replaySend g n

/-- The replay of slot `n` has waited one completion budget to send (R156). -/
def Bridge.replayIssueDue (b : Bridge) (g : Settings) (n : SlotId) : Option Replay :=
  match b.replayIssuing n with
  | some (r, ready) => if reached b.now (ready + g.slotBudget n) then some r else none
  | none => none

/-- REPLAY_ISSUE_TIMEOUT: the replay fails EXPIRED with the key of the record due (R156, R157). -/
def Bridge.replayIssueTimeout (b : Bridge) (g : Settings) (n : SlotId) : Bridge :=
  match b.replayIssueDue g n with
  | some r => b.replayFail g n .expired ((b.slot n).keyDue r) r.sent
  | none => b

/-- REPLAY_ISSUE_TIMEOUT (R156, R157). -/
def execReplayIssueTimeout (n : SlotId) (s : State) : Host.Outcome State Fault Refusal :=
  s.actSettled fun b g => b.replayIssueTimeout g n

/-- The replay of slot `n`, when its retry interval has ended (R158). -/
def Bridge.replayRetryDue (b : Bridge) (n : SlotId) : Option Replay :=
  match (b.slot n).stage.replay with
  | some r =>
    match r.activity with
    | .retryWait resume => if reached b.now resume then some r else none
    | _ => none
  | none => none

/-- REPLAY_RETRY_RESUME: the write copy is ready to be sent again (R158). -/
def Bridge.replayRetryResume (b : Bridge) (n : SlotId) : Bridge :=
  match b.replayRetryDue n with
  | some r => b.setReplay n { r with activity := .issueWait b.now }
  | none => b

/-- REPLAY_RETRY_RESUME (R158). -/
def execReplayRetryResume (n : SlotId) (s : State) : Host.Outcome State Fault Refusal :=
  s.act fun b _ => b.replayRetryResume n

end Sys2Proof.Machine
end

