-- ==== Sys2Proof/Machine/Timers.lean ====
section
/-! DEFINITION. The deadline monitor's expiries (spec/02, R44; spec/03, R55 to R59) and the head-of-line stall
(spec/01, R24). -/

namespace Sys2Proof.Machine

open Sys2Proof

/-! ### Deadlines (spec/03, R55 to R58) -/

/-- One more expiry counted in slot `n` (R55). -/
def Bridge.countExpiry (b : Bridge) (n : SlotId) : Bridge :=
  b.modFault n fun f => { f with expiries := satAdd countTop f.expiries 1 }

/-- Suspicion of slot `n` raised by one, to 15 at most, with its quiet reference set; SUSPICION is reported when
the counter is at or above the threshold (R57 to R59). -/
def Bridge.suspect (b : Bridge) (g : Settings) (n : SlotId) : Bridge :=
  let count := satAdd 15 (b.slot n).suspicion 1
  let c := b.modSlot n fun s => { s with suspicion := count, quietRef := b.now }
  if (g.timing n).threshold ≤ count then c.takeTrigger g n .suspicion else c

/-- The bridge block of a purpose is told that the request under tag `i` expired (spec/02, R43). -/
def Bridge.tellExpired (b : Bridge) (g : Settings) (n : SlotId) (i : BridgeTag) : Purpose → Bridge
  | .script _ => b.scriptExpired g i
  | .replay _ =>
    match (b.slot n).stage.replay with
    | some r => if r.activity = .awaitAnswer i then b.replayExpired g n else b
    | none => b

/-- An OPEN entry stood in by its expiry, with its item at the list's end (R55, R61; spec/02, R42). -/
def Bridge.expireToStandIn (b : Bridge) (g : Settings) (i : BridgeTag) (r : EntryRecord) : Bridge :=
  (b.standInEntry g i r).listItem i r

/-- The expiry of an OPEN entry, by Table 3-2 (R55). -/
def Bridge.expire (b : Bridge) (g : Settings) (i : BridgeTag) (r : EntryRecord) : Bridge :=
  match r.origin, r.target with
  | .upstream _, .slot n => ((b.expireToStandIn g i r).countExpiry n).suspect g n
  | .slot _ _, .slot n => ((b.expireToStandIn g i r).countExpiry n).suspect g n
  | .slot a _, .upstream => (b.expireToStandIn g i r).countExpiry a
  | .bridge purpose, .slot n => ((b.freeEntry i).countExpiry n).tellExpired g n i purpose
  | .upstream _, .upstream => b
  | .bridge _, .upstream => b

/-- The deadline of an OPEN record has been reached. -/
def EntryRecord.deadlineReached (r : EntryRecord) (now : Time) : Bool :=
  match r.phase with
  | .opened deadline => reached now deadline
  | .stoodIn _ _ _ => false
  | .orphaned _ => false

/-- The hold of a STOOD-IN or ORPHANED record has ended. -/
def EntryRecord.holdReached (r : EntryRecord) (now : Time) : Bool :=
  match r.phase with
  | .opened _ => false
  | .stoodIn hold _ _ => reached now hold
  | .orphaned hold => reached now hold

/-- The examination of the deadline of entry `i`: the record is read, and the expiry is taken when the deadline
has been reached (R55). An entry that is not OPEN is not examined (spec/02, R26). -/
def Bridge.examineDeadline (b : Bridge) (g : Settings) (i : BridgeTag) : Bridge :=
  if (b.status i).isOpen then
    match b.readEntry g i .examine with
    | (c, some r) => if r.deadlineReached b.now then c.expire g i r else c
    | (c, none) => c
  else b

/-- DEADLINE_EXPIRY (R55 to R59). -/
def execDeadlineExpiry (i : BridgeTag) (s : State) : Host.Outcome State Fault Refusal :=
  s.actSettled fun b g => b.examineDeadline g i

/-! ### Holds (spec/02, R44) -/

/-- The index is STOOD-IN or ORPHANED. -/
def EntryStatus.isHeld (x : EntryStatus) : Bool := x.isInUse && !x.isOpen

/-- The examination of the hold of entry `i` (R44). -/
def Bridge.examineHold (b : Bridge) (g : Settings) (i : BridgeTag) : Bridge :=
  if (b.status i).isHeld then
    match b.readEntry g i .examine with
    | (c, some r) => if r.holdReached b.now then c.releaseEntry i r else c
    | (c, none) => c
  else b

/-- HOLD_EXPIRY (R44, R45). -/
def execHoldExpiry (i : BridgeTag) (s : State) : Host.Outcome State Fault Refusal :=
  s.actSettled fun b g => b.examineHold g i

/-! ### Quiet intervals (spec/03, R59) -/

/-- A full quiet interval has passed for slot `n` with its counter above 0. -/
def Bridge.quietDue (b : Bridge) (g : Settings) (n : SlotId) : Bool :=
  decide (0 < (b.slot n).suspicion)
    && reached b.now ((b.slot n).quietRef + msec g.part.quietInterval)

/-- QUIET_DECREMENT (R59). -/
def Bridge.quietDecrement (b : Bridge) (g : Settings) (n : SlotId) : Bridge :=
  if b.quietDue g n then
    b.modSlot n fun s => { s with suspicion := s.suspicion - 1, quietRef := b.now }
  else b

/-- QUIET_DECREMENT (R59). -/
def execQuietDecrement (n : SlotId) (s : State) : Host.Outcome State Fault Refusal :=
  s.act fun b g => b.quietDecrement g n

/-! ### The head-of-line stall (spec/01, R24) -/

/-- The recorded wait of a head that still waits has reached the stall limit, for the slot named (R24; log 16). -/
def Bridge.stallDue (b : Bridge) (g : Settings) : Option SlotId :=
  match b.stall with
  | some st =>
    if (b.headWaitsOn g).isSome && reached b.now (st.start + msec g.part.stallLimit) then
      some st.slot
    else none
  | none => none

/-- HEAD_STALL: reported for the recorded slot, and the recorded start set to now (R24). -/
def Bridge.headStall (b : Bridge) (g : Settings) : Bridge :=
  match b.stallDue g with
  | some n =>
    let record : Stall := { slot := n, start := b.now }
    ({ b with stall := some record }).takeTrigger g n .headStall
  | none => b

/-- HEAD_STALL (R24). -/
def execHeadStall (s : State) : Host.Outcome State Fault Refusal := s.actSettled Bridge.headStall

end Sys2Proof.Machine
end

