-- ==== Sys2Proof/Machine/Transmit.lean ====
section
/-! DEFINITION. What leaves the bridge: a Slot Egress FIFO's head (spec/01, R23), the arbiter's grants (spec/08,
8.1 and 8.2), the stand-in generator (spec/03, 3.5 to 3.7) and the forming of alert writes (spec/08, 8.4). -/

namespace Sys2Proof.Machine

open Sys2Proof

/-! ### The Slot Egress FIFOs (R23) -/

/-- A slot in this state may be sent transactions of this class (R23; log 17). -/
def Stage.sends (stage : Stage) : EgressClass → Bool
  | .traffic => decide (stage = .admitted)
  | .bridgeRequest =>
    match stage with
    | .qualifying => true
    | .restoring _ => true
    | _ => false
  | .standIn => !stage.srst

/-- The transaction that slot `n`'s link may take now: the head of its FIFO while the link is UP (R23; spec/06,
R126). -/
def Bridge.sendable? (b : Bridge) (n : SlotId) : Option EgressTxn :=
  match (b.slot n).egress with
  | [] => none
  | x :: _ => if (b.slot n).linkUp && (b.slot n).stage.sends x.source then some x else none

/-- EGRESS_FIFO_SEND: the downstream link accepts the head (R23; the requester ID by spec/10, R186). -/
def Bridge.sendEgress (b : Bridge) (g : Settings) (n : SlotId) : Bridge :=
  match b.sendable? n with
  | some x => b.modSlot n fun s =>
      { s with egress := s.egress.tail, cardOut := some (Transaction.sentUnder x.txn g) }
  | none => b

/-- EGRESS_FIFO_SEND (R23). -/
def execEgressFifoSend (n : SlotId) (s : State) : Host.Outcome State Fault Refusal :=
  s.act fun b g => b.sendEgress g n

/-! ### The arbiter (spec/08, R165 to R168) -/

/-- A departure from slot `n`'s upstream queue lowers the drain counts of the items that wait on it (spec/03,
R63; spec/08, R167). -/
def EntryItem.drained (n : SlotId) (x : EntryItem) : EntryItem :=
  match x.dest with
  | .host source drain => if source = n then { x with dest := .host source (drain - 1) } else x
  | .card _ => x

/-- The head of slot `n`'s upstream queue goes to the link (the requester ID by spec/10, R186). -/
def Bridge.grantSlot (b : Bridge) (g : Settings) (n : SlotId) : Bridge :=
  let c := b.modSlot n fun s => { s with upQueue := s.upQueue.tail }
  { c with
    linkOut := (b.slot n).upQueue.head?.map fun t => Transaction.sentUnder t g
    workList := b.workList.map (EntryItem.drained n) }

/-- The first slot after `p` in the cyclic order whose upstream queue holds something, `p` itself last
(R168). -/
def Bridge.nextHolder (b : Bridge) (p : SlotId) : Option SlotId :=
  [p + 1, p + 2, p + 3, p].find? fun n => !(b.slot n).upQueue.isEmpty

/-- A grant among the slots (R168). -/
def Bridge.grantAmongSlots (b : Bridge) (g : Settings) : Bridge :=
  if !(b.slot b.pointer).upQueue.isEmpty && decide (b.burst < g.part.burst) then
    { b.grantSlot g b.pointer with burst := b.burst + 1 }
  else
    match b.nextHolder b.pointer with
    | some n => { b.grantSlot g n with pointer := n, burst := 1 }
    | none => b

/-- ARBITER_GRANT: the upstream link takes a transaction (R165). -/
def Bridge.arbiterGrant (b : Bridge) (g : Settings) : Bridge :=
  match b.bridgeQueue with
  | t :: rest => { b with bridgeQueue := rest, linkOut := some (Transaction.ownSent t g) }
  | [] => b.grantAmongSlots g

/-- ARBITER_GRANT (R165, R168). -/
def execArbiterGrant (s : State) : Host.Outcome State Fault Refusal := s.act Bridge.arbiterGrant

/-! ### The stand-in generator (spec/03, R63 to R73) -/

/-- One more stand-in completion counted in slot `n` (R73). -/
def Bridge.countPiece (b : Bridge) (n : SlotId) : Bridge :=
  b.modFault n fun f => { f with standInPieces := satAdd countTop f.standInPieces 1 }

/-- An item is eligible (R64); a card in reset is owed nothing (R67; log 18). -/
def Bridge.eligible (b : Bridge) (x : EntryItem) : Bool :=
  match x.dest with
  | .host _ drain => decide (drain = 0) && b.bridgeQueueHasRoom
  | .card a => !(b.slot a).stage.srst && b.egressHasRoom a

/-- A stand-in completion placed in its destination's queue (R63). -/
def Bridge.handTo (b : Bridge) (c : Completion) : ItemDest → Bridge
  | .host _ _ => b.pushBridgeQueue (.completion c)
  | .card a => b.pushEgress a .standIn (.completion c)

/-- The answer of an entry item (R68, Table 3-4). -/
def EntryRecord.standIn (r : EntryRecord) : StandIn :=
  match r.asked, r.answer with
  | .memRead _ _ _, some answer => FenceAnswer.memAnswer answer
  | .memRead _ _ _, none => .single .aborted
  | .cfgRead _ _, some answer => FenceAnswer.cfgAnswer answer
  | .cfgRead _ _, none => .single .aborted
  | .cfgWrite _ _, _ => .single .aborted

/-- P0, the position of the first byte owed (R71). -/
def Asked.firstOwed : Asked → Nat
  | .memRead addr _ delivered => addr.toNat + delivered
  | .cfgRead _ _ => 0
  | .cfgWrite _ _ => 0

/-- E, the end of the request (R71). -/
def Asked.endOwed : Asked → Nat
  | .memRead addr length _ => addr.toNat + length
  | .cfgRead _ _ => 0
  | .cfgWrite _ _ => 0

/-- A single completion of an entry item (R72): the bytes owed and P0 of a read, 4 and 0 otherwise. -/
def Asked.singleFor (a : Asked) (q : Requester) (status : Status) : Completion :=
  match a with
  | .memRead addr length delivered =>
    singleCompletion q status (length - delivered) (lowerOf (addr.toNat + delivered))
  | .cfgRead _ _ => singleCompletion q status 4 0
  | .cfgWrite _ _ => singleCompletion q status 4 0

/-- The slot an entry's stand-in completions are counted in (R73, Table 3-7). -/
def EntryRecord.countedIn (r : EntryRecord) (account : SlotId) : SlotId :=
  match r.target with
  | .slot n => n
  | .upstream => account

/-- The item of entry `i` replaced, in its place. -/
def Bridge.updateItem (b : Bridge) (x : EntryItem) : Bridge :=
  { b with workList := b.workList.map fun y => if y.entry = x.entry then x else y }

/-- The item of entry `i` leaves the list, and the ORT is told (R66; spec/02, R45). -/
def Bridge.finishItem (b : Bridge) (g : Settings) (i : BridgeTag) : Bridge :=
  ({ b with workList := b.workList.filter fun y => decide (y.entry ≠ i) }).itemLeft g i

/-- One piece of a begun item (R64, R71). -/
def Bridge.handPiece (b : Bridge) (g : Settings) (x : EntryItem) (k : Begun) : Bridge :=
  let stop := pieceEnd g.part.pieceSize k.next k.stop
  let c := (b.handTo (pieceCompletion k.requester g.part.pieceSize k.next k.stop) x.dest).countPiece
    k.counted
  if stop = k.stop then c.finishItem g x.entry
  else c.updateItem { x with begun := some { k with next := stop } }

/-- A single completion is an item's first and last (R66). -/
def Bridge.handSingle (b : Bridge) (g : Settings) (x : EntryItem) (n : SlotId) (c : Completion) :
    Bridge :=
  ((b.handTo c x.dest).countPiece n).finishItem g x.entry

/-- An item is begun from its entry's record, and hands on its first completion (R65, R68). -/
def Bridge.beginItem (b : Bridge) (g : Settings) (x : EntryItem) (r : EntryRecord) (q : Requester)
    (account : SlotId) : Bridge :=
  match r.standIn with
  | .pieces =>
    b.handPiece g x
      { requester := q, next := r.asked.firstOwed, stop := r.asked.endOwed,
        counted := r.countedIn account }
  | .cfgOnes => b.handSingle g x (r.countedIn account) (cfgReadCompletion q 0xFFFFFFFF)
  | .single status => b.handSingle g x (r.countedIn account) (r.asked.singleFor q status)

/-- The next completion of an item (R64, R65). -/
def Bridge.handOn (b : Bridge) (g : Settings) (x : EntryItem) : Bridge :=
  match x.begun with
  | some k => b.handPiece g x k
  | none =>
    match b.readEntry g x.entry .standIn, (b.status x.entry).account with
    | (c, some r), some account =>
      match r.origin.requester with
      | some q => c.beginItem g x r q account
      | none => c
    | (c, some _), none => c
    | (c, none), _ => c

/-- STAND_IN_HAND_ON: the earliest eligible item hands on its next completion (R64). -/
def Bridge.standInHandOn (b : Bridge) (g : Settings) : Bridge :=
  match b.workList.find? b.eligible with
  | some x => b.handOn g x
  | none => b

/-- STAND_IN_HAND_ON (R63 to R66, R68, R71 to R73). -/
def execStandInHandOn (s : State) : Host.Outcome State Fault Refusal :=
  s.actSettled Bridge.standInHandOn

/-! ### The direct item (spec/03, R62, R64, R67, R69) -/

/-- The direct item's destination takes a completion now (R63, R67; log 18). -/
def Bridge.directReady (b : Bridge) (d : DirectItem) : Bool :=
  match d.reply with
  | .host => b.bridgeQueueHasRoom
  | .card a => !(b.slot a).stage.srst && b.egressHasRoom a

/-- A completion of the direct item placed in its destination's queue and counted (R63, R73). -/
def Bridge.handDirect (b : Bridge) (d : DirectItem) (c : Completion) : Bridge :=
  let placed :=
    match d.reply with
    | .host => b.pushBridgeQueue (.completion c)
    | .card a => b.pushEgress a .standIn (.completion c)
  match d.counted with
  | some n => placed.countPiece n
  | none => placed

/-- The end of a direct item answered in pieces: the whole request is owed (R69, R71). -/
def ReqBody.endPosition : ReqBody → Nat
  | .memRead a l _ _ => a.toNat + l
  | .memWrite a l _ _ _ => a.toNat + l
  | .cfgRead _ _ _ => 0
  | .cfgWrite _ _ _ _ => 0
  | .message _ => 0
  | .unknown _ => 0

/-- The direct item is free (R62). -/
def Bridge.freeDirect (b : Bridge) : Bridge := { b with direct := none }

/-- The next completion of the direct item (R69 to R72). -/
def Bridge.directNext (b : Bridge) (g : Settings) (d : DirectItem) : Bridge :=
  let q := Request.requester d.request
  match d.answer with
  | .pieces =>
    let finish := ReqBody.endPosition d.request.body
    let stop := pieceEnd g.part.pieceSize d.next finish
    let c := b.handDirect d (pieceCompletion q g.part.pieceSize d.next finish)
    if stop = finish then c.freeDirect else { c with direct := some { d with next := stop } }
  | .cfgOnes => (b.handDirect d (cfgReadCompletion q 0xFFFFFFFF)).freeDirect
  | .single status =>
    (b.handDirect d (singleCompletion q status (ReqBody.singleRemaining d.request.body)
      (ReqBody.singleLower d.request.body))).freeDirect

/-- DIRECT_ITEM_HAND_ON (R64, R69). -/
def Bridge.directHandOn (b : Bridge) (g : Settings) : Bridge :=
  match b.direct with
  | some d => if b.directReady d then b.directNext g d else b
  | none => b

/-- DIRECT_ITEM_HAND_ON (R62, R64, R69 to R73). -/
def execDirectItemHandOn (s : State) : Host.Outcome State Fault Refusal := s.act Bridge.directHandOn

/-- A direct item toward a card has been occupied for one completion budget of that card's slot (R67). -/
def Bridge.directDue (b : Bridge) (g : Settings) : Bool :=
  match b.direct with
  | some d =>
    match d.reply with
    | .host => false
    | .card a => reached b.now (d.since + g.slotBudget a)
  | none => false

/-- DIRECT_ITEM_TIMEOUT (R67). -/
def Bridge.directTimeout (b : Bridge) (g : Settings) : Bridge :=
  if b.directDue g then b.freeDirect else b

/-- DIRECT_ITEM_TIMEOUT (R67). -/
def execDirectItemTimeout (s : State) : Host.Outcome State Fault Refusal :=
  s.act Bridge.directTimeout

/-! ### Alert writes (spec/08, R174) -/

/-- The alert write of a pair: 4 bytes with all byte enables set, under the bridge's requester ID, which `ownSent`
renews as it is sent (log 7). The tag is a free value (log 9); the last-dword mask of a single dword is 0 (log 8). -/
def alertWrite (g : Settings) (p : AlertPair) (draw : Nat) : Request :=
  { id := g.bridgeId, tag := Config.alertWriteTag draw,
    body := .memWrite g.alert.address 4 0xF 0 (bytesOf (p.word g.alert.data)) }

/-- ALERT_WRITE_FORM: the head pair becomes a write, or is dropped, when the bridge-origin queue has room
(R174). -/
def Bridge.formAlert (b : Bridge) (g : Settings) : Bridge :=
  match b.sendList with
  | p :: rest =>
    if b.bridgeQueueHasRoom then
      if p.sendable g then
        ({ b with
          sendList := rest
          env := { b.env with draws := b.env.draws + 1 } }).pushBridgeQueue
          (.request (alertWrite g p b.env.draws))
      else { b with sendList := rest }
    else b
  | [] => b

/-- ALERT_WRITE_FORM (R173, R174). -/
def execAlertWriteForm (s : State) : Host.Outcome State Fault Refusal := s.act Bridge.formAlert

end Sys2Proof.Machine
end

