-- ==== Sys2Proof/Machine/Tick.lean ====
section
/-! DEFINITION. What the block does of itself when no command waits (log 2): what is due at the present timebase
value is queued; when nothing is due, one microsecond passes, one storage upset of the environment strikes
(log 3), and the deadline monitor's examinations of that microsecond are queued (spec/02, R44; spec/03, R55). -/

namespace Sys2Proof.Machine

open Sys2Proof

/-! ### Storage upsets (spec/09, R176; log 3, log 4) -/

/-- The ORT word of an index changed by an upset. -/
def Bridge.upsetWord (b : Bridge) (i : BridgeTag) (f : OrtWord → OrtWord) : Bridge :=
  b.setWord i (f (b.ort.get i))

/-- The shadow word of a record changed by an upset. -/
def Bridge.upsetShadow (b : Bridge) (k : RecordId) (f : ShadowWord → ShadowWord) : Bridge :=
  { b with shadowWords := b.shadowWords.set k (f (b.shadowWords.get k)) }

/-- The stored record of an IN-USE index now reads as another value, clean or after a miscorrection. The bits that
stick in its cell still count: with one, the word reads CORRECTED or UNCORRECTABLE and never CLEAN, and with two or
more UNCORRECTABLE, where the spec allows the other outcomes too (spec/09, R176; log 4). -/
def OrtWord.misread (w : OrtWord) (record : EntryRecord) (corrected : Bool) : OrtWord :=
  match w.status with
  | .inUse account _ => { w with status := .inUse account record, flips := boolNat corrected }
  | .free => w
  | .lost _ => w

/-- An upset strikes. -/
def Bridge.strike (b : Bridge) : Upset → Bridge
  | .ortFlip i bits => b.upsetWord i fun w => { w with flips := w.flips + bits }
  | .ortStuck i bits => b.upsetWord i fun w => { w with stuck := w.stuck + bits }
  | .ortMisread i record corrected => b.upsetWord i fun w => w.misread record corrected
  | .shadowFlip k bits => b.upsetShadow k fun w => { w with flips := w.flips + bits }
  | .shadowStuck k bits => b.upsetShadow k fun w => { w with stuck := w.stuck + bits }
  | .shadowMisread k union value corrected =>
    b.upsetShadow k fun w => { w with union := union, value := value, flips := boolNat corrected }

/-- The next upset of the environment strikes, if there is one. -/
def Bridge.strikeNext (b : Bridge) : Bridge :=
  match b.env.upsets with
  | u :: rest => { b with env := { b.env with upsets := rest } }.strike u
  | [] => b

/-! ### What is due (log 2) -/

/-- A command, when its condition holds. -/
def dueIf (condition : Bool) (c : Instr) : List Instr := if condition then [c] else []

/-- The examination of an index in this microsecond (R44, R55). -/
def Bridge.examination (b : Bridge) (i : BridgeTag) : List Instr :=
  dueIf (b.status i).isOpen (.deadlineExpiry i) ++ dueIf (b.status i).isHeld (.holdExpiry i)

/-- The examinations of this microsecond, in index order. -/
def Bridge.examinations (b : Bridge) : List Instr := allTags.flatMap b.examination

/-- The completed changes of slot `n`'s inputs (spec/05, R108). -/
def Bridge.dueInputs (b : Bridge) (g : Settings) (n : SlotId) : List Instr :=
  dueIf (decide (b.lineDue g n .prsnt = some true)) (.debouncedPresence n)
    ++ dueIf (decide (b.lineDue g n .prsnt = some false)) (.debouncedPresenceLoss n)
    ++ dueIf (decide (b.lineDue g n .attn = some true)) (.attentionPress n)
    ++ dueIf (decide (b.lineDue g n .attn = some false)) (.attentionRelease n)
    ++ match b.lineDue g n .pwrgd with
      | some true =>
        [if b.pwrgdReported n true then .powerGoodTaken n else .unwatchedPwrgdChange n]
      | some false =>
        [if b.pwrgdReported n false then .powerGoodLoss n else .unwatchedPwrgdChange n]
      | none => []

/-- The timers of slot `n` that have been reached. -/
def Bridge.dueTimers (b : Bridge) (g : Settings) (n : SlotId) : List Instr :=
  dueIf (b.quietDue g n) (.quietDecrement n)
    ++ dueIf (b.sequenceDue g n) (.sequenceComplete n)
    ++ dueIf (b.powerTimeoutDue g n) (.powerGoodTimeout n)
    ++ dueIf (b.warmHoldDue g n) (.warmHoldEnd n)
    ++ dueIf (b.offTimeDue g n) (.offTimeEnd n)
    ++ dueIf (b.blinkDue n).isSome (.indBlinkToggle n)
    ++ dueIf (b.linkTimeoutDue g n) (.linkTimeout n)
    ++ dueIf (b.replayIssueDue g n).isSome (.replayIssueTimeout n)
    ++ dueIf (b.replayRetryDue n).isSome (.replayRetryResume n)

/-- The timers of the part that have been reached. What waits for a condition alone is not among them: the sends of the
engine and the replays (R135), the hand-ons of the stand-in generator, the forming of alert writes and the like come
as commands from outside (log 2). -/
def Bridge.duePart (b : Bridge) (g : Settings) : List Instr :=
  dueIf (b.inrush.any b.grantStale) .inrushHistoryExpiry
    ++ dueIf (b.grantDue g).isSome .powerGrant
    ++ dueIf (b.directDue g) .directItemTimeout
    ++ dueIf (b.stallDue g).isSome .headStall
    ++ dueIf (b.scriptIssueDue g).isSome .scriptIssueTimeout
    ++ dueIf b.scriptRetryDue.isSome .scriptRetryResume
    ++ dueIf b.scriptWaitDue.isSome .scriptWaitEnd

/-- Everything that is due at the present timebase value. -/
def Bridge.due (b : Bridge) (g : Settings) : List Instr :=
  allSlots.flatMap (fun n => b.dueInputs g n ++ b.dueTimers g n) ++ b.duePart g

/-- One microsecond passes (spec/03, R51). -/
def Bridge.tick (b : Bridge) : Bridge := { b with now := b.now + 1 }.strikeNext

/-- The block with no command waiting (log 2). -/
def State.idle (s : State) : State :=
  let b := s.bridge.noteStall s.settings
  match b.due s.settings with
  | [] => { s with bridge := b.tick, pending := b.tick.examinations }
  | c :: rest => { s with bridge := b, pending := c :: rest }

end Sys2Proof.Machine
end

