-- ==== Sys2Proof/Machine/Dispatch.lean ====
section
/-! DEFINITION. The meaning of each command: one arm per constructor of Instr. -/

namespace Sys2Proof.Machine

open Sys2Proof

/-- The effect of a command on everything but the queue. -/
def exec (i : Instr) (s : State) : Host.Outcome State Fault Refusal :=
  match i with
  | .powerOnReset => Sys2Proof.Machine.execPowerOnReset s
  | .upstreamReset => Sys2Proof.Machine.execUpstreamReset s
  | .hostTransactionAccept t => Sys2Proof.Machine.execHostTransactionAccept t s
  | .upstreamHeadForward => Sys2Proof.Machine.execUpstreamHeadForward s
  | .upstreamHeadNotAdmitted => Sys2Proof.Machine.execUpstreamHeadNotAdmitted s
  | .unroutedRequest => Sys2Proof.Machine.execUnroutedRequest s
  | .malformedRequest side => Sys2Proof.Machine.execMalformedRequest side s
  | .hostCompletionMatch => Sys2Proof.Machine.execHostCompletionMatch s
  | .mgmtCfgRead => Sys2Proof.Machine.execMgmtCfgRead s
  | .mgmtCfgWrite => Sys2Proof.Machine.execMgmtCfgWrite s
  | .apertureRead => Sys2Proof.Machine.execApertureRead s
  | .cellSubmit => Sys2Proof.Machine.execCellSubmit s
  | .apertureWrite => Sys2Proof.Machine.execApertureWrite s
  | .cardTransactionAccept n t => Sys2Proof.Machine.execCardTransactionAccept n t s
  | .cardHeadForward n => Sys2Proof.Machine.execCardHeadForward n s
  | .cardHeadRefused n => Sys2Proof.Machine.execCardHeadRefused n s
  | .cardHeadMessage n => Sys2Proof.Machine.execCardHeadMessage n s
  | .cardHeadNotAdmitted n => Sys2Proof.Machine.execCardHeadNotAdmitted n s
  | .cardCompletionMatch n => Sys2Proof.Machine.execCardCompletionMatch n s
  | .egressFifoSend n => Sys2Proof.Machine.execEgressFifoSend n s
  | .arbiterGrant => Sys2Proof.Machine.execArbiterGrant s
  | .standInHandOn => Sys2Proof.Machine.execStandInHandOn s
  | .directItemHandOn => Sys2Proof.Machine.execDirectItemHandOn s
  | .directItemTimeout => Sys2Proof.Machine.execDirectItemTimeout s
  | .deadlineExpiry k => Sys2Proof.Machine.execDeadlineExpiry k s
  | .holdExpiry k => Sys2Proof.Machine.execHoldExpiry k s
  | .quietDecrement n => Sys2Proof.Machine.execQuietDecrement n s
  | .headStall => Sys2Proof.Machine.execHeadStall s
  | .alertWriteForm => Sys2Proof.Machine.execAlertWriteForm s
  | .inputPinChange n line high => Sys2Proof.Machine.execInputPinChange n line high s
  | .debouncedPresence n => Sys2Proof.Machine.execDebouncedPresence n s
  | .debouncedPresenceLoss n => Sys2Proof.Machine.execDebouncedPresenceLoss n s
  | .attentionPress n => Sys2Proof.Machine.execAttentionPress n s
  | .attentionRelease n => Sys2Proof.Machine.execAttentionRelease n s
  | .powerGoodTaken n => Sys2Proof.Machine.execPowerGoodTaken n s
  | .powerGoodLoss n => Sys2Proof.Machine.execPowerGoodLoss n s
  | .powerGrant => Sys2Proof.Machine.execPowerGrant s
  | .inrushHistoryExpiry => Sys2Proof.Machine.execInrushHistoryExpiry s
  | .sequenceComplete n => Sys2Proof.Machine.execSequenceComplete n s
  | .powerGoodTimeout n => Sys2Proof.Machine.execPowerGoodTimeout n s
  | .warmHoldEnd n => Sys2Proof.Machine.execWarmHoldEnd n s
  | .offTimeEnd n => Sys2Proof.Machine.execOffTimeEnd n s
  | .indBlinkToggle n => Sys2Proof.Machine.execIndBlinkToggle n s
  | .linkUp n => Sys2Proof.Machine.execLinkUp n s
  | .linkDown n => Sys2Proof.Machine.execLinkDown n s
  | .linkTimeout n => Sys2Proof.Machine.execLinkTimeout n s
  | .scriptRequestSend => Sys2Proof.Machine.execScriptRequestSend s
  | .scriptIssueTimeout => Sys2Proof.Machine.execScriptIssueTimeout s
  | .scriptRetryResume => Sys2Proof.Machine.execScriptRetryResume s
  | .scriptWaitEnd => Sys2Proof.Machine.execScriptWaitEnd s
  | .replayWriteSend n => Sys2Proof.Machine.execReplayWriteSend n s
  | .replayIssueTimeout n => Sys2Proof.Machine.execReplayIssueTimeout n s
  | .replayRetryResume n => Sys2Proof.Machine.execReplayRetryResume n s
  | .setWindow => Sys2Proof.Machine.execSetWindow s
  | .clearWindow => Sys2Proof.Machine.execClearWindow s
  | .setBusRange => Sys2Proof.Machine.execSetBusRange s
  | .setSlotTiming => Sys2Proof.Machine.execSetSlotTiming s
  | .setSlotPolicy => Sys2Proof.Machine.execSetSlotPolicy s
  | .setPartPolicy => Sys2Proof.Machine.execSetPartPolicy s
  | .setSideband => Sys2Proof.Machine.execSetSideband s
  | .loadScriptStep => Sys2Proof.Machine.execLoadScriptStep s
  | .setScript => Sys2Proof.Machine.execSetScript s
  | .setExclusion => Sys2Proof.Machine.execSetExclusion s
  | .powerOn => Sys2Proof.Machine.execPowerOn s
  | .powerOff => Sys2Proof.Machine.execPowerOff s
  | .fence => Sys2Proof.Machine.execFence s
  | .recover => Sys2Proof.Machine.execRecover s
  | .readSlot => Sys2Proof.Machine.execReadSlot s
  | .readEntry => Sys2Proof.Machine.execReadEntry s
  | .readShadow => Sys2Proof.Machine.execReadShadow s
  | .deleteShadowRecord => Sys2Proof.Machine.execDeleteShadowRecord s
  | .clearShadow => Sys2Proof.Machine.execClearShadow s
  | .clearFaults => Sys2Proof.Machine.execClearFaults s
  | .clearAlerts => Sys2Proof.Machine.execClearAlerts s
  | .readErrorLog => Sys2Proof.Machine.execReadErrorLog s
  | .clearErrorLog => Sys2Proof.Machine.execClearErrorLog s
  | .reclaimLost => Sys2Proof.Machine.execReclaimLost s
  | .badOpcode => Sys2Proof.Machine.execBadOpcode s
  | .unwatchedPwrgdChange n => Sys2Proof.Machine.execUnwatchedPwrgdChange n s

end Sys2Proof.Machine
end

