-- ==== Sys2Proof/Safety.lean ====
section
/-! DEFINITION. The laws that the state keeps: what each says of a state, and what it is for a law to be
kept by every step. Each law is a decidable statement about plain data. -/

namespace Sys2Proof.Safety

open Sys2Proof Sys2Proof.Machine

/-- Every step that answers a next state keeps the law. -/
def Kept (law : State → Prop) : Prop :=
  ∀ s t : State, law s → step s = .next t → law t

/-! ### The settings (spec/01, R5 to R7; spec/10, R192 and the owning rules) -/

/-- Each valid window is on 4 KiB boundaries and in order, and no two valid windows share an address that R6
keeps apart. -/
def WindowLaw (g : Settings) : Prop :=
  (∀ (i : Fin 48) (w : Window), g.windows.get i = some w → Window.boundsFit w = true) ∧
    ∀ (i j : Fin 48) (v w : Window), i ≠ j → g.windows.get i = some v → g.windows.get j = some w →
      Window.conflicts v w = false

/-- Each valid bus range is in order, and no two valid ranges share a bus number (R6, R7). -/
def BusLaw (g : Settings) : Prop :=
  (∀ n : SlotId, (g.slot n).busRange.valid = true →
      (g.slot n).busRange.first.toNat ≤ (g.slot n).busRange.last.toNat) ∧
    ∀ m n : SlotId, m ≠ n →
      BusRange.conflicts (g.slot m).busRange (g.slot n).busRange = false

/-- The timings lie in their ranges (spec/03, R53, R58; spec/05, R118; spec/06, R128). -/
def TimingLaw (t : SlotTiming) : Prop :=
  t.budgetCode ≤ 10 ∧ 1 ≤ t.threshold ∧ t.threshold ≤ 15 ∧ 1 ≤ t.resetHold ∧ t.resetHold ≤ 1000 ∧
    10 ≤ t.linkTimeout ∧ t.linkTimeout ≤ 1000 ∧ 10 ≤ t.powerGoodTimeout ∧
    t.powerGoodTimeout ≤ 500 ∧ 100 ≤ t.offTime ∧ t.offTime ≤ 2000

/-- The policies lie in their ranges (spec/02, R28; spec/04, R100; spec/07, R147). -/
def PolicyLaw (p : SlotPolicy) : Prop :=
  1 ≤ p.maxAttempts ∧ p.maxAttempts ≤ 7 ∧ 1 ≤ p.escalation ∧ p.escalation ≤ 7 ∧ p.quota ≤ 48 ∧
    p.shadowLimit ≤ 384

/-- The part policies lie in their ranges (spec/01, R24; spec/02, R44; spec/03, R53, R59, R70; spec/05, R122;
spec/08, R169). -/
def PartLaw (p : PartPolicy) : Prop :=
  (p.pieceSize = 64 ∨ p.pieceSize = 128 ∨ p.pieceSize = 256) ∧ 1 ≤ p.inrushCount ∧
    p.inrushCount ≤ 4 ∧ 50 ≤ p.inrushWindow ∧ p.inrushWindow ≤ 1000 ∧ 1 ≤ p.burst ∧ p.burst ≤ 16 ∧
    1 ≤ p.quietInterval ∧ p.quietInterval ≤ 255 ∧ 1 ≤ p.stallLimit ∧ p.stallLimit ≤ 100 ∧
    p.hostAnswerCode ≤ 10 ∧ 10 ≤ p.holdLimit ∧ p.holdLimit ≤ 1000

/-- The settings of a script lie in their ranges (spec/06, R132). -/
def ScriptLaw (x : Script) : Prop :=
  x.length ≤ 12 ∧ x.retryLimit ≤ 255 ∧ 1 ≤ x.retryInterval ∧ x.retryInterval ≤ 255

/-- Every setting lies in its range, the four shadow limits sum to 384 at most (spec/07, R147), and the alert
address is dword aligned (spec/08, R172). -/
def SettingsLaw (s : State) : Prop :=
  WindowLaw s.settings ∧ BusLaw s.settings ∧
    (∀ n : SlotId, TimingLaw (s.settings.timing n) ∧ PolicyLaw (s.settings.policy n) ∧
      ScriptLaw (s.settings.slot n).script) ∧
    sumSlots (fun n => (s.settings.policy n).shadowLimit) ≤ 384 ∧ PartLaw s.settings.part ∧
    s.settings.alert.address.toNat % 4 = 0

/-! ### The cells (spec/10, R188, R189) -/

/-- The cell is IN-PROGRESS. -/
def inProgress (c : Cell) : Bool :=
  match c.state with
  | .idle => false
  | .inProgress _ => true
  | .done => false

/-- The Management Queue holds each IN-PROGRESS cell once and no other cell; an IN-PROGRESS cell shows status 0,
all-clear 0 and results 0; the collision counter is at most 65 535. -/
def CellLaw (s : State) : Prop :=
  s.mgmt.queue.Nodup ∧
    (∀ k : CellId, k ∈ s.mgmt.queue ↔ inProgress (s.mgmt.cells.get k) = true) ∧
    (∀ k : CellId, inProgress (s.mgmt.cells.get k) = true →
      (s.mgmt.cells.get k).status = .done ∧ (s.mgmt.cells.get k).allClear = false ∧
        (s.mgmt.cells.get k).results = noResults) ∧
    s.mgmt.collisions ≤ 65535

/-! ### Rooms (spec/01, R11, R22, R23; spec/05, R120; spec/08, R166, R167) -/

/-- No queue holds more than its room. -/
def RoomLaw (s : State) : Prop :=
  s.bridge.upIngress.length ≤ 64 ∧ s.bridge.bridgeQueue.length ≤ 64 ∧ s.bridge.inrush.length ≤ 4 ∧
    ∀ n : SlotId, (s.bridge.slot n).egress.length ≤ 32 ∧ (s.bridge.slot n).ingress.length ≤ 32 ∧
      (s.bridge.slot n).upQueue.length ≤ 32

/-! ### Counters (spec/03, R57; spec/04, R102; spec/09, R181) -/

/-- Every counter of a fault record is at most 65 535. -/
def FaultLaw (f : FaultRecord) : Prop :=
  f.expiries ≤ 65535 ∧ f.standInPieces ≤ 65535 ∧ f.discarded ≤ 65535 ∧ f.violations ≤ 65535 ∧
    f.unexpected ≤ 65535 ∧ f.late ≤ 65535 ∧ f.nonfatal ≤ 65535 ∧ f.correctable ≤ 65535 ∧
    f.fenceEvents ≤ 65535 ∧ f.recoveries ≤ 65535

/-- No counter is above its stated maximum. -/
def CounterLaw (s : State) : Prop :=
  s.bridge.unrouted ≤ 65535 ∧ s.bridge.unexpected ≤ 65535 ∧ s.bridge.log.corrected ≤ 65535 ∧
    s.bridge.log.overflow ≤ 255 ∧
    ∀ n : SlotId, FaultLaw (s.bridge.slot n).fault ∧ (s.bridge.slot n).suspicion ≤ 15

/-! ### Lines (spec/04, R76; spec/05, R116) -/

/-- PWREN as Table 4-2 gives it for a state; in PARKED it may stand at either level (R98). -/
def pwrenFits (stage : Stage) (pwren : Bool) : Bool :=
  match stage with
  | .empty => !pwren
  | .off => !pwren
  | .powering .queued => !pwren
  | .powering (.awaitPwrgd _) => pwren
  | .powering (.hold _ _) => pwren
  | .resetting .warmHold _ => pwren
  | .resetting .offWait _ => !pwren
  | .linking _ => pwren
  | .qualifying => pwren
  | .restoring _ => pwren
  | .admitted => pwren
  | .fenced => pwren
  | .parked => true

/-- PWREN stands as Table 4-2 gives it in every slot, and the watch of power-good runs only under PWREN. -/
def PowerLineLaw (s : State) : Prop :=
  ∀ n : SlotId, pwrenFits (s.bridge.slot n).stage (s.bridge.slot n).pwren = true ∧
    ((s.bridge.slot n).watch = true → (s.bridge.slot n).pwren = true)

/-! ### The queues of slots (spec/05, R119; spec/06, R130) -/

/-- The slot served by the qualification engine. -/
def served (b : Bridge) : Option SlotId := b.run.map Run.slot

/-- The Power Queue holds each slot in phase QUEUED once and no other; the Qualification Queue and the served slot
are, each once, the slots in QUALIFYING. -/
def SlotQueueLaw (s : State) : Prop :=
  s.bridge.powerQueue.Nodup ∧ s.bridge.qualQueue.Nodup ∧
    ∀ n : SlotId,
      (n ∈ s.bridge.powerQueue ↔ (s.bridge.slot n).stage = .powering .queued) ∧
      (n ∈ s.bridge.qualQueue ∨ served s.bridge = some n ↔ (s.bridge.slot n).stage = .qualifying) ∧
      ¬ (n ∈ s.bridge.qualQueue ∧ served s.bridge = some n)

/-! ### Presence (spec/05, R109) -/

/-- A slot is EMPTY exactly while its filtered presence level is deasserted. The law of the slot queues is part of
it, since a grant or the engine moves the slot that its queue names. -/
def PresenceLaw (s : State) : Prop :=
  SlotQueueLaw s ∧
    ∀ n : SlotId, (s.bridge.slot n).stage = .empty ↔ (s.bridge.slot n).filtered.prsnt = false

/-! ### The shadow (spec/07, R146) -/

/-- A slot's list holds no more records than its limit and at most one per key, and no record stands in two
places. The settings' law is part of it, since a limit may change. -/
def ShadowLaw (s : State) : Prop :=
  SettingsLaw s ∧
    ∀ n : SlotId,
      (s.bridge.slot n).shadow.length ≤ (s.settings.policy n).shadowLimit ∧
      ((s.bridge.slot n).shadow.map fun x => (x.function, x.offset)).Nodup ∧
      ((s.bridge.slot n).shadow.map ShadowKey.number).Nodup ∧
      ∀ m : SlotId, m ≠ n → ∀ x ∈ (s.bridge.slot m).shadow, ∀ y ∈ (s.bridge.slot n).shadow,
        x.number ≠ y.number

/-! ### Attempts and accounts (spec/04, R97; spec/02, R28) -/

/-- The attempt counter lies within the maximum attempts, and is 0 in ADMITTED and FENCED. The settings' law is part
of it, since the maximum may change. -/
def AttemptLaw (s : State) : Prop :=
  SettingsLaw s ∧
    ∀ n : SlotId, (s.bridge.slot n).attempts ≤ (s.settings.policy n).maxAttempts ∧
      ((s.bridge.slot n).stage = .admitted ∨ (s.bridge.slot n).stage = .fenced →
        (s.bridge.slot n).attempts = 0)

/-- The excesses of the four accounts lie within the shared pool. -/
def PoolLaw (s : State) : Prop :=
  SettingsLaw s ∧
    s.bridge.poolUse (fun n => (s.settings.policy n).quota)
      ≤ sharedPool fun n => (s.settings.policy n).quota

/-! ### Kinds of command -/

/-- The commands that act on the bridge alone: those of the links, the engines, the timers and the lines. -/
def bridgeCommand : Instr → Bool
  | .hostTransactionAccept _ => true
  | .upstreamHeadForward => true
  | .upstreamHeadNotAdmitted => true
  | .unroutedRequest => true
  | .malformedRequest _ => true
  | .hostCompletionMatch => true
  | .mgmtCfgRead => true
  | .apertureRead => true
  | .cardTransactionAccept _ _ => true
  | .cardHeadForward _ => true
  | .cardHeadRefused _ => true
  | .cardHeadMessage _ => true
  | .cardHeadNotAdmitted _ => true
  | .cardCompletionMatch _ => true
  | .egressFifoSend _ => true
  | .arbiterGrant => true
  | .standInHandOn => true
  | .directItemHandOn => true
  | .directItemTimeout => true
  | .deadlineExpiry _ => true
  | .holdExpiry _ => true
  | .quietDecrement _ => true
  | .headStall => true
  | .alertWriteForm => true
  | .inputPinChange _ _ _ => true
  | .debouncedPresence _ => true
  | .debouncedPresenceLoss _ => true
  | .attentionPress _ => true
  | .attentionRelease _ => true
  | .powerGoodTaken _ => true
  | .powerGoodLoss _ => true
  | .unwatchedPwrgdChange _ => true
  | .powerGrant => true
  | .inrushHistoryExpiry => true
  | .sequenceComplete _ => true
  | .powerGoodTimeout _ => true
  | .warmHoldEnd _ => true
  | .offTimeEnd _ => true
  | .indBlinkToggle _ => true
  | .linkUp _ => true
  | .linkDown _ => true
  | .linkTimeout _ => true
  | .scriptRequestSend => true
  | .scriptIssueTimeout => true
  | .scriptRetryResume => true
  | .scriptWaitEnd => true
  | .replayWriteSend _ => true
  | .replayIssueTimeout _ => true
  | .replayRetryResume _ => true
  | _ => false

/-- The management commands that name a slot, with their opcodes (spec/10, Table 10-4). -/
def slotCommands : List (Nat × Instr) :=
  [(0x01, .setWindow), (0x03, .setBusRange), (0x04, .setSlotTiming), (0x05, .setSlotPolicy),
    (0x07, .setSideband), (0x08, .loadScriptStep), (0x09, .setScript), (0x0A, .setExclusion),
    (0x10, .powerOn), (0x11, .powerOff), (0x12, .fence), (0x13, .recover), (0x20, .readSlot),
    (0x22, .readShadow), (0x23, .deleteShadowRecord), (0x24, .clearShadow), (0x25, .clearFaults),
    (0x26, .clearAlerts)]

/-- Bits `lo` to `lo + len − 1` of a word hold the value. -/
def hasField (w : Word) (lo len value : Nat) : Prop := w.extractLsb' lo len = BitVec.ofNat len value

/-- The state with its bridge replaced, and nothing else changed. -/
def onBridge (s : State) (b : Bridge) : State := { s with bridge := b }

/-- A command with its opcode stands at the head of the Management Queue, in cell `k` with argument copy `a`. -/
def atHead (s : State) (opcode : Nat) (k : CellId) (a : Vector Word 8) : Prop :=
  s.mgmt.headCell = some (k, a) ∧ opcodeOf a = opcode

end Sys2Proof.Safety
end

