-- ==== Sys2Proof/Certificates/Slice0/Obligations.lean ====
section
/-! DEFINITION. The statements for the provers. A statement of a command's effect has as its conclusion that
`exec` answers the next state that the rules give, written out, so everything it does not write is unchanged. -/

open Sys2Proof Sys2Proof.Machine Sys2Proof.Safety

/-! ### The queue of commands, the resets and the laws -/

/-- The command at the front of the queue is the one a step runs, on the queue's rest. -/
def Obligations.StepRunsFrontCommand : Prop :=
  ∀ (s : State) (c : Instr) (rest : List Instr), s.pending = c :: rest →
    step s = exec c { s with pending := rest }

/-- With no command waiting, what is due now is queued and time does not pass; with nothing due, one microsecond
passes and the deadline monitor's examinations are queued. The order is the model's choice (log 2). -/
def Sys2Proof.Parts.IdleStep : Prop :=
  ∀ s : State, s.pending = [] →
    let b := s.bridge.noteStall s.settings
    (b.due s.settings ≠ [] →
      step s = .next { s with bridge := b, pending := b.due s.settings }) ∧
    (b.due s.settings = [] →
      step s = .next { s with bridge := b.tick, pending := b.tick.examinations }) ∧
    b.now = s.bridge.now ∧ b.tick.now = s.bridge.now + 1

/-- Which commands are due at a timebase value, and no other is: the filtered changes of the inputs, and the timers of the
slots and of the part that have been reached. What waits for a condition alone is not queued, which is the model's choice
(log 2), as is that a stall is due only while the head still waits (log 16). -/
def Sys2Proof.Parts.DueCommands : Prop :=
  ∀ (b : Bridge) (g : Settings) (c : Instr),
    let past := fun (start : Time) (ms : Nat) => reached b.now (start + msec ms) = true
    let stage := fun n : SlotId => (b.slot n).stage
    let within := (b.inrush.filter fun t =>
      decide ((b.now - t).toNat < 1000 * g.part.inrushWindow)).length
    c ∈ b.due g ↔ match c with
      | .debouncedPresence n => b.lineDue g n .prsnt = some true
      | .debouncedPresenceLoss n => b.lineDue g n .prsnt = some false
      | .attentionPress n => b.lineDue g n .attn = some true
      | .attentionRelease n => b.lineDue g n .attn = some false
      | .powerGoodTaken n => b.lineDue g n .pwrgd = some true ∧
          ∃ grant, stage n = .powering (.awaitPwrgd grant)
      | .powerGoodLoss n => b.lineDue g n .pwrgd = some false ∧ (b.slot n).watch = true
      | .unwatchedPwrgdChange n =>
          (b.lineDue g n .pwrgd = some true ∧ ∀ grant, stage n ≠ .powering (.awaitPwrgd grant)) ∨
            (b.lineDue g n .pwrgd = some false ∧ (b.slot n).watch = false)
      | .quietDecrement n =>
          0 < (b.slot n).suspicion ∧ past (b.slot n).quietRef g.part.quietInterval
      | .sequenceComplete n => ∃ grant start, stage n = .powering (.hold grant start) ∧
          past start (g.timing n).resetHold
      | .powerGoodTimeout n => ∃ grant, stage n = .powering (.awaitPwrgd grant) ∧
          past grant (g.timing n).powerGoodTimeout
      | .warmHoldEnd n => ∃ start, stage n = .resetting .warmHold start ∧
          past start (g.timing n).resetHold
      | .offTimeEnd n => ∃ start, stage n = .resetting .offWait start ∧
          past start (g.timing n).offTime
      | .indBlinkToggle n => ∃ half start, (stage n).indPattern = .blink half ∧
          (b.slot n).ind.since = some start ∧ past start half
      | .linkTimeout n => ∃ start, stage n = .linking start ∧ past start (g.timing n).linkTimeout
      | .replayIssueTimeout n => ∃ r ready, stage n = .restoring r ∧
          r.activity = .issueWait ready ∧ reached b.now (ready + g.slotBudget n) = true
      | .replayRetryResume n => ∃ r resume, stage n = .restoring r ∧
          r.activity = .retryWait resume ∧ reached b.now resume = true
      | .inrushHistoryExpiry => ∃ t ∈ b.inrush, past t 1000
      | .powerGrant => b.powerQueue ≠ [] ∧ within < g.part.inrushCount
      | .directItemTimeout => ∃ d a, b.direct = some d ∧ d.reply = .card a ∧
          reached b.now (d.since + g.slotBudget a) = true
      | .headStall => ∃ st m, b.stall = some st ∧ b.headWaitsOn g = some m ∧
          past st.start g.part.stallLimit
      | .scriptIssueTimeout => ∃ r ready, b.run = some r ∧ r.activity = .issueWait ready ∧
          reached b.now (ready + g.slotBudget r.slot) = true
      | .scriptRetryResume => ∃ r resume, b.run = some r ∧ r.activity = .retryWait resume ∧
          reached b.now resume = true
      | .scriptWaitEnd => ∃ r resume, b.run = some r ∧ r.activity = .pause resume ∧
          reached b.now resume = true
      | _ => False

/-- The deadline monitor examines the deadline of every OPEN entry and the hold of every STOOD-IN and ORPHANED entry once
in a microsecond, and no FREE or LOST one. That it goes by ascending index is the model's choice (log 2). -/
def Sys2Proof.Parts.EntriesExamined : Prop :=
  ∀ b : Bridge, b.examinations = (List.finRange 256).filterMap fun i =>
    match b.status i with
    | .free => none
    | .lost _ => none
    | .inUse _ r =>
      match r.phase with
      | .opened _ => some (.deadlineExpiry i)
      | .stoodIn _ _ _ => some (.holdExpiry i)
      | .orphaned _ => some (.holdExpiry i)

/-- One microsecond passes, and the next upset of the environment, if there is one, changes the stored word it names and
nothing else. When an upset strikes and what it does are the environment's, by the model's choice (log 3, log 4). -/
def Sys2Proof.Parts.TimePasses : Prop :=
  ∀ b : Bridge,
    let later : Bridge := { b with now := b.now + 1 }
    (b.env.upsets = [] → b.tick = later) ∧
    ∀ (u : Upset) (rest : List Upset), b.env.upsets = u :: rest →
      let entry := fun (i : BridgeTag) (w : OrtWord) =>
        { later with ort := b.ort.set i w, env := { b.env with upsets := rest } }
      let record := fun (k : RecordId) (w : ShadowWord) =>
        { later with shadowWords := b.shadowWords.set k w, env := { b.env with upsets := rest } }
      b.tick = match u with
        | .ortFlip i bits => entry i { b.ort.get i with flips := (b.ort.get i).flips + bits }
        | .ortStuck i bits => entry i { b.ort.get i with stuck := (b.ort.get i).stuck + bits }
        | .ortMisread i value corrected => entry i (match b.status i with
            | .inUse account _ => { b.ort.get i with
                status := .inUse account value
                flips := if corrected then 1 else 0 }
            | _ => b.ort.get i)
        | .shadowFlip k bits =>
            record k { b.shadowWords.get k with flips := (b.shadowWords.get k).flips + bits }
        | .shadowStuck k bits =>
            record k { b.shadowWords.get k with stuck := (b.shadowWords.get k).stuck + bits }
        | .shadowMisread k union value corrected => record k { b.shadowWords.get k with
            union := union
            value := value
            flips := if corrected then 1 else 0 }

/-- A step with no command waiting, which commands are then due, and the microsecond that passes when none is. -/
def Obligations.IdleStepQueuesDueOrTicks : Prop :=
  Parts.IdleStep ∧ Parts.DueCommands ∧ Parts.EntriesExamined ∧ Parts.TimePasses

/-- What power-on reset leaves, from every state: the settings and the cells at their reset values, every slot
EMPTY with nothing recorded, every index FREE, every queue empty. The input pins and the storage cells' own
faults stay as they are, which is the model's reading (log 28). -/
def Obligations.PowerOnResetLeavesReset : Prop :=
  ∀ s : State, ∃ t : State, exec .powerOnReset s = .next t ∧ t.pending = s.pending ∧
    t.settings = Settings.reset ∧ t.mgmt = Mgmt.reset ∧ t.bridge.now = 0 ∧
    t.bridge.upIngress = [] ∧ t.bridge.stall = none ∧ t.bridge.headAnswer = none ∧
    t.bridge.workList = [] ∧ t.bridge.direct = none ∧ t.bridge.powerQueue = [] ∧ t.bridge.inrush = [] ∧
    t.bridge.qualQueue = [] ∧ t.bridge.run = none ∧ t.bridge.notes = [] ∧
    t.bridge.bridgeQueue = [] ∧ t.bridge.pointer = 0 ∧ t.bridge.burst = 0 ∧
    t.bridge.log = ErrorLog.reset ∧ t.bridge.partFlags = 0 ∧ t.bridge.sendList = [] ∧
    t.bridge.unrouted = 0 ∧ t.bridge.unexpected = 0 ∧
    (∀ i : BridgeTag, t.bridge.status i = .free) ∧
    ∀ n : SlotId, ∃ start, t.bridge.slot n
      = { Slot.reset with pins := (s.bridge.slot n).pins, changeStart := start }

/-- Power-on reset leaves the default script in every slot. -/
def Obligations.DefaultScriptAfterPowerOn : Prop :=
  (∀ s : State, ∃ t : State, exec .powerOnReset s = .next t ∧
    ∀ n : SlotId, (t.settings.slot n).script.length = 1 ∧
      (t.settings.slot n).script.retryLimit = 250 ∧ (t.settings.slot n).script.retryInterval = 4 ∧
      (t.settings.slot n).script.steps.get 0
        = .readExpect 0 0 0x0000FFFF 0x0000FFFF .notEqual ∧
      ∀ k : Fin 12, k ≠ 0 → (t.settings.slot n).script.steps.get k = .wait 1) ∧
  (∀ s : State, ∃ t : State, exec .upstreamReset s = .next t ∧
    ∀ n : SlotId, (t.settings.slot n).script = (s.settings.slot n).script) ∧
  ∀ (b : Bridge) (g : Settings) (r : Run) (word : Word),
    b.scriptSuccess g r (.readExpect 0 0 0x0000FFFF 0x0000FFFF .notEqual) word
      = if word.extractLsb' 0 16 ≠ 0xFFFF then b.stepPass g r
        else b.stepFail g r .mismatch (some word)

/-- What an upstream reset does to the settings, the queues, the ORT and the shadow, and what it keeps. -/
def Sys2Proof.Parts.UpstreamResetEmptiesAndKeeps : Prop :=
  ∀ s : State, ∃ t : State, exec .upstreamReset s = .next t ∧ t.pending = s.pending ∧
    t.settings = { s.settings with header := Header.reset, alert := AlertSettings.reset } ∧
    t.mgmt = Mgmt.reset ∧ t.bridge.upIngress = [] ∧ t.bridge.stall = none ∧
    t.bridge.headAnswer = none ∧ t.bridge.workList = [] ∧ t.bridge.direct = none ∧ t.bridge.qualQueue = [] ∧
    t.bridge.run = none ∧ t.bridge.notes = [] ∧ t.bridge.bridgeQueue = [] ∧
    t.bridge.pointer = 0 ∧ t.bridge.burst = 0 ∧ t.bridge.sendList = [] ∧
    t.bridge.now = s.bridge.now ∧ t.bridge.powerQueue = s.bridge.powerQueue ∧
    t.bridge.inrush = s.bridge.inrush ∧ t.bridge.log = s.bridge.log ∧
    t.bridge.partFlags = s.bridge.partFlags ∧ t.bridge.unrouted = s.bridge.unrouted ∧
    t.bridge.unexpected = s.bridge.unexpected ∧
    (∀ i : BridgeTag, t.bridge.status i
      = if (s.bridge.status i).isInUse then .free else s.bridge.status i) ∧
    ∀ n : SlotId, (t.bridge.slot n).upQueue = [] ∧ (t.bridge.slot n).shadow = [] ∧
      (t.bridge.slot n).incomplete = false ∧
      (t.bridge.slot n).flags = (s.bridge.slot n).flags ∧
      (t.bridge.slot n).filtered = (s.bridge.slot n).filtered ∧
      (t.bridge.slot n).linkUp = (s.bridge.slot n).linkUp ∧
      (t.bridge.slot n).suspicion = (s.bridge.slot n).suspicion ∧
      (t.bridge.slot n).replayResult = (s.bridge.slot n).replayResult ∧
      (t.bridge.slot n).qualResult = (s.bridge.slot n).qualResult

/-- What an upstream reset does to each sequencer, by its state. -/
def Sys2Proof.Parts.UpstreamResetMovesSlots : Prop :=
  ∀ s : State, ∃ t : State, exec .upstreamReset s = .next t ∧ ∀ n : SlotId,
    let old := s.bridge.slot n
    let new := t.bridge.slot n
    match old.stage with
    | .empty | .off | .parked =>
      new.stage = old.stage ∧ new.attempts = old.attempts ∧ new.restore = old.restore ∧
        new.pwren = old.pwren ∧ new.fault = old.fault
    | .powering p =>
      new.stage = .powering p ∧ new.attempts = 0 ∧ new.restore = false ∧
        new.pwren = old.pwren ∧ new.fault = old.fault
    | _ =>
      new.attempts = 1 ∧ new.restore = false ∧ new.ingress = [] ∧ new.egress = [] ∧
        (if old.pwren = true ∧ 1 < (s.settings.policy n).escalation then
          new.stage = .resetting .warmHold s.bridge.now ∧ new.pwren = true
        else new.stage = .resetting .offWait s.bridge.now ∧ new.pwren = false)

/-- What an upstream reset leaves: the parts it empties and keeps, and each sequencer by its state. -/
def Obligations.UpstreamResetLeaves : Prop :=
  Parts.UpstreamResetEmptiesAndKeeps ∧ Parts.UpstreamResetMovesSlots

/-- Every law holds right after power-on reset. -/
def Obligations.LawsHoldAtReset : Prop :=
  SettingsLaw State.reset ∧ CellLaw State.reset ∧ RoomLaw State.reset ∧ CounterLaw State.reset ∧
    PowerLineLaw State.reset ∧ PresenceLaw State.reset ∧ SlotQueueLaw State.reset ∧
    ShadowLaw State.reset ∧ AttemptLaw State.reset ∧ PoolLaw State.reset

/-- Every step keeps the settings within their ranges and the windows and bus ranges apart. -/
def Obligations.StepKeepsSettingsLaw : Prop := Kept SettingsLaw

/-- Every step keeps the Management Queue and the cells in agreement. -/
def Obligations.StepKeepsCellLaw : Prop := Kept CellLaw

/-- Every step keeps every queue within its room. -/
def Obligations.StepKeepsRoomLaw : Prop := Kept RoomLaw

/-- Every step keeps every counter within its maximum. -/
def Obligations.StepKeepsCounterLaw : Prop := Kept CounterLaw

/-- Every step keeps PWREN as Table 4-2 gives it. -/
def Obligations.StepKeepsPowerLineLaw : Prop := Kept PowerLineLaw

/-- Every step keeps a slot EMPTY exactly while its filtered presence is deasserted. -/
def Obligations.StepKeepsPresenceLaw : Prop := Kept PresenceLaw

/-- Every step keeps the Power Queue, the Qualification Queue and the served slot in agreement with the states. -/
def Obligations.StepKeepsSlotQueueLaw : Prop := Kept SlotQueueLaw

/-- Every step keeps the shadow's lists within their limits, with one record per key. -/
def Obligations.StepKeepsShadowLaw : Prop := Kept ShadowLaw

/-- Every step keeps the attempt counter within the maximum attempts. -/
def Obligations.StepKeepsAttemptLaw : Prop := Kept AttemptLaw

/-- Every step keeps the excesses of the four accounts within the shared pool. -/
def Obligations.StepKeepsPoolLaw : Prop := Kept PoolLaw

/-- The commands of the links, the engines, the timers and the lines change neither the settings nor the cells nor
the queue of commands. -/
def Sys2Proof.Parts.EngineCommandsFrame : Prop :=
  ∀ (c : Instr) (s : State), bridgeCommand c = true →
    ∃ b : Bridge, exec c s = .next (onBridge s b)

/-- A change of one slot leaves the other three, and every part of the bridge outside the slots, as they were. -/
def Sys2Proof.Parts.SlotUpdateFrame : Prop :=
  ∀ (b : Bridge) (n : SlotId) (f : Slot → Slot),
    (b.modSlot n f).slot n = f (b.slot n) ∧
      (∀ m : SlotId, m ≠ n → (b.modSlot n f).slot m = b.slot m) ∧
      { b.modSlot n f with slots := b.slots } = b

/-- The frame of the commands that act on the bridge alone, and of a change of one slot. -/
def Obligations.FrameOfBridgeCommands : Prop :=
  Parts.EngineCommandsFrame ∧ Parts.SlotUpdateFrame

/-! ### Acceptance and the routes -/

/-- A delivered transaction joins the end of its ingress queue with its route while the queue has room; while the
queue is full the link holds its sender off, and the command changes nothing. -/
def Obligations.AcceptanceQueuesWithRoute : Prop :=
  ∀ (s : State) (n : SlotId) (t : Transaction),
    (s.bridge.upIngress.length < 64 →
      exec (.hostTransactionAccept t) s = .next (onBridge s ({ s.bridge with
        upIngress := s.bridge.upIngress ++ [{ txn := t, route := s.settings.hostRoute t }] }))) ∧
    (64 ≤ s.bridge.upIngress.length → exec (.hostTransactionAccept t) s = .next s) ∧
    ((s.bridge.slot n).ingress.length < 32 →
      exec (.cardTransactionAccept n t) s = .next (onBridge s (s.bridge.modSlot n fun x =>
        { x with ingress := x.ingress ++ [{ txn := t, route := s.settings.cardRoute n t }] }))) ∧
    (32 ≤ (s.bridge.slot n).ingress.length → exec (.cardTransactionAccept n t) s = .next s)

/-- The route of a host memory request of at least one byte: MANAGEMENT in the enabled aperture, else the owner of
the valid DECODE window that covers the whole range with its answer, else UNROUTED. A request of length 0 has no
range and is malformed. -/
def Sys2Proof.Parts.HostMemoryRoute : Prop :=
  ∀ (s : State) (r : Request) (addr : Addr) (length : Nat), SettingsLaw s → 0 < length →
    ((∃ f l, r.body = .memRead addr length f l) ∨ ∃ f l p, r.body = .memWrite addr length f l p) →
    let g := s.settings
    let inside := g.header.memDecode = true ∧ 4096 * g.header.basePage.toNat ≤ addr.toNat ∧
      addr.toNat ≤ 4096 * g.header.basePage.toNat + 4095
    let covers := fun w : Window =>
      w.base.toNat ≤ addr.toNat ∧ addr.toNat + length - 1 ≤ w.limit.toNat
    (inside → g.hostRoute (.request r) = .management) ∧
    (∀ (i : Fin 48) (w : Window) (answer : FenceAnswer), ¬ inside → g.windows.get i = some w →
      w.kind = .decode answer → covers w →
      g.hostRoute (.request r) = .slot w.owner (some answer)) ∧
    (¬ inside →
      (∀ (i : Fin 48) (w : Window) (answer : FenceAnswer), g.windows.get i = some w →
        w.kind = .decode answer → ¬ covers w) →
      g.hostRoute (.request r) = .unrouted)

/-- The route of a host configuration request: MANAGEMENT when the management function claims it, else the slot whose
valid bus range holds its bus, else UNROUTED; a host message is UNROUTED. -/
def Sys2Proof.Parts.HostConfigRoute : Prop :=
  ∀ (s : State) (r : Request), SettingsLaw s →
    (∀ m, r.body = .message m → s.settings.hostRoute (.request r) = .unrouted) ∧
    ∀ t : CfgTarget,
      ((∃ l be, r.body = .cfgRead t l be) ∨ ∃ l be p, r.body = .cfgWrite t l be p) →
      let holds := fun n : SlotId => (s.settings.slot n).busRange.valid = true ∧
        (s.settings.slot n).busRange.first.toNat ≤ t.bus.toNat ∧
        t.bus.toNat ≤ (s.settings.slot n).busRange.last.toNat
      let claimed := match s.settings.header.busNumber with
        | some bus => t.bus = bus
        | none => t.device = 0 ∧ t.function = 0 ∧ ∀ n, ¬ holds n
      (claimed → s.settings.hostRoute (.request r) = .management) ∧
      (∀ n, ¬ claimed → holds n → s.settings.hostRoute (.request r) = .slot n none) ∧
      (¬ claimed → (∀ n, ¬ holds n) → s.settings.hostRoute (.request r) = .unrouted)

/-- The grant outcome of a card's memory request: GRANTED exactly when a GRANT window of its slot covers the whole
range and permits the access. A card's configuration request is REFUSED and routed UPSTREAM; a message is not
checked. -/
def Sys2Proof.Parts.CardGrantOutcome : Prop :=
  ∀ (g : Settings) (n : SlotId) (r : Request),
    (∀ addr length f l, r.body = .memRead addr length f l →
      (g.cardRoute n (.request r) = .checked (g.cardDest n addr.toNat length) true ↔
        ∃ (i : Fin 48) (w : Window), g.windows.get i = some w ∧ w.owner = n ∧
          (w.kind = .grant .readWrite ∨ w.kind = .grant .readOnly) ∧
          w.base.toNat ≤ addr.toNat ∧ addr.toNat + length ≤ w.limit.toNat + 1)) ∧
    (∀ addr length f l p, r.body = .memWrite addr length f l p →
      (g.cardRoute n (.request r) = .checked (g.cardDest n addr.toNat length) true ↔
        ∃ (i : Fin 48) (w : Window), g.windows.get i = some w ∧ w.owner = n ∧
          (w.kind = .grant .readWrite ∨ w.kind = .grant .writeOnly) ∧
          w.base.toNat ≤ addr.toNat ∧ addr.toNat + length ≤ w.limit.toNat + 1)) ∧
    (∀ t l be, r.body = .cfgRead t l be →
      g.cardRoute n (.request r) = .checked .upstream false) ∧
    (∀ m, r.body = .message m → g.cardRoute n (.request r) = .unchecked) ∧
    ∀ t l be p, r.body = .cfgWrite t l be p →
      g.cardRoute n (.request r) = .checked .upstream false

/-- The destination of a card's memory request, whatever its grant outcome: the peer whose valid DECODE window covers the
whole range, with that window's fence answer; UPSTREAM when the window is the card's own slot's, or none covers it. -/
def Sys2Proof.Parts.CardDestination : Prop :=
  ∀ (s : State) (n : SlotId) (r : Request) (addr : Addr) (length : Nat), SettingsLaw s → 0 < length →
    ((∃ f l, r.body = .memRead addr length f l) ∨ ∃ f l p, r.body = .memWrite addr length f l p) →
    let g := s.settings
    let covers := fun w : Window =>
      w.base.toNat ≤ addr.toNat ∧ addr.toNat + length - 1 ≤ w.limit.toNat
    let goes := fun dest : CardDest =>
      ∃ granted, g.cardRoute n (.request r) = .checked dest granted
    (∀ (i : Fin 48) (w : Window) (answer : FenceAnswer), g.windows.get i = some w →
      w.kind = .decode answer → covers w →
      (w.owner ≠ n → goes (.peer w.owner answer)) ∧ (w.owner = n → goes .upstream)) ∧
    ((∀ (i : Fin 48) (w : Window) (answer : FenceAnswer), g.windows.get i = some w →
      w.kind = .decode answer → ¬ covers w) → goes .upstream)

/-- The routes of the host's memory, configuration and message requests, and the grant outcome and the destination of a
card's. -/
def Obligations.RoutesAndGrants : Prop :=
  Parts.HostMemoryRoute ∧ Parts.HostConfigRoute ∧ Parts.CardGrantOutcome ∧ Parts.CardDestination

/-! ### The head of the Upstream Ingress Queue -/

/-- A host request at the head for an ADMITTED slot with room is forwarded: a posted one as it is, a non-posted one
under the offered entry, which is written OPEN with the fields of Table 2-3. -/
def Sys2Proof.Parts.HostRequestForwarded : Prop :=
  ∀ (s : State) (r : Request) (n : SlotId) (answer : Option FenceAnswer) (rest : List HostQueued),
    s.bridge.upIngress = { txn := .request r, route := .slot n answer } :: rest →
    ReqBody.fits r.body = true → (s.bridge.slot n).stage = .admitted →
    (s.bridge.slot n).egress.length < 32 →
    let b : Bridge := { s.bridge with upIngress := rest, stall := none, headAnswer := none }
    (ReqBody.posted r.body = true →
      exec .upstreamHeadForward s
        = .next (onBridge s (b.pushEgress n .traffic (.request r)))) ∧
    ∀ (i : BridgeTag) (asked : Asked), ReqBody.asked r.body = some asked →
      s.bridge.offeredEntry s.settings n = some i →
      let entry : EntryRecord :=
        { phase := .opened (s.bridge.now + s.settings.slotBudget n)
          origin := .upstream { id := r.id, tag := r.tag }
          target := .slot n
          asked := asked
          allocatedAt := s.bridge.now
          answer := some (answer.getD (s.settings.policy n).configAnswer) }
      exec .upstreamHeadForward s = .next (onBridge s (((b.putStatus i (.inUse n entry)).pushEgress n .traffic
          (.request { r with id := s.settings.bridgeId, tag := BitVec.ofNat 16 i.val })).noteWrite i
          n r.body))

/-- A host request at the head for an ADMITTED slot waits while the slot's FIFO is full or no entry is available, and
the wait is recorded for the slot if it has just begun. -/
def Sys2Proof.Parts.HostRequestWaits : Prop :=
  ∀ (s : State) (r : Request) (n : SlotId) (answer : Option FenceAnswer) (rest : List HostQueued),
    s.bridge.upIngress = { txn := .request r, route := .slot n answer } :: rest →
    ReqBody.fits r.body = true → (s.bridge.slot n).stage = .admitted →
    (32 ≤ (s.bridge.slot n).egress.length ∨
      (ReqBody.posted r.body = false ∧ s.bridge.offeredEntry s.settings n = none)) →
    exec .upstreamHeadForward s = .next (onBridge s ({ s.bridge with
      stall := some (s.bridge.stall.getD { slot := n, start := s.bridge.now }) }))

/-- The pending note of a forwarded configuration write: the tag, the slot, the target and the write as it was sent. A
forwarded read leaves none. -/
def Sys2Proof.Parts.PendingNote : Prop :=
  ∀ (b : Bridge) (i : BridgeTag) (n : SlotId) (t : CfgTarget) (l : Nat) (be : BitVec 4),
    (∀ p, b.noteWrite i n (.cfgWrite t l be p) = { b with notes := b.notes ++ [
      { tag := i, slot := n, bus := t.bus, function := t.function, offset := t.offset, be := be,
        payload := wordOf p }] }) ∧
    b.noteWrite i n (.cfgRead t l be) = b ∧
    ∀ addr length f e, b.noteWrite i n (.memRead addr length f e) = b

/-- A host request for an ADMITTED slot is forwarded, or waits at the head with its wait recorded. -/
def Obligations.HostRequestForwardedOrWaits : Prop :=
  Parts.HostRequestForwarded ∧ Parts.HostRequestWaits ∧ Parts.PendingNote

/-- A host request at the head for a slot that is not ADMITTED, by Table 1-5, with the direct item free. A configuration
read is answered with the config answer that stood when the request reached the head. -/
def Obligations.HostRequestAnsweredAway : Prop :=
  ∀ (s : State) (r : Request) (n : SlotId) (answer : Option FenceAnswer) (rest : List HostQueued),
    s.bridge.upIngress = { txn := .request r, route := .slot n answer } :: rest →
    ReqBody.fits r.body = true → (s.bridge.slot n).stage ≠ .admitted →
    let taken : Bridge → Bridge := fun b => { b with upIngress := rest, stall := none, headAnswer := none }
    (∀ addr l f e p, r.body = .memWrite addr l f e p →
      exec .upstreamHeadNotAdmitted s
        = .next (onBridge s ((taken s.bridge).countDiscarded n 1))) ∧
    (s.bridge.direct = none → ∀ addr l f e, r.body = .memRead addr l f e → answer = some .ones →
      exec .upstreamHeadNotAdmitted s
        = .next (onBridge s ((taken s.bridge).occupyDirect r .host .pieces (some n)))) ∧
    (s.bridge.direct = none → ∀ addr l f e, r.body = .memRead addr l f e → answer = some .error →
      exec .upstreamHeadNotAdmitted s = .next (onBridge s ((taken s.bridge).occupyDirect r .host (.single .aborted) (some n)))) ∧
    (s.bridge.direct = none → ∀ t l be, r.body = .cfgRead t l be →
      exec .upstreamHeadNotAdmitted s = .next (onBridge s ((taken s.bridge).occupyDirect r .host
          (if s.bridge.headAnswer.getD (s.settings.policy n).configAnswer = .ones then .cfgOnes
            else .single .aborted)
          (some n)))) ∧
    (s.bridge.direct = none → ∀ t l be p, r.body = .cfgWrite t l be p →
      let offered :=
        if (s.settings.policy n).captureWhenAway = true then
          s.bridge.offerWrite s.settings n t.bus t.function t.offset be (wordOf p)
        else (s.bridge, false)
      exec .upstreamHeadNotAdmitted s = .next (onBridge s ((taken offered.1).occupyDirect r .host
          (.single (if offered.2 = true then .success else .aborted)) (some n))))

/-- Which requests fit Table 1-1, and which are posted: the others are malformed. That an offset which is no multiple of 4
and a payload of another length than the request make it malformed is deduced (log 15). -/
def Sys2Proof.Parts.RequestForm : Prop :=
  (∀ (addr : Addr) (length : Nat) (f l : BitVec 4),
    (ReqBody.fits (.memRead addr length f l) = true ↔
      4 ≤ length ∧ length ≤ 4096 ∧ length % 4 = 0 ∧ addr.toNat % 4 = 0) ∧
    ReqBody.posted (.memRead addr length f l) = false ∧
    ∀ p : List Byte,
      (ReqBody.fits (.memWrite addr length f l p) = true ↔
        4 ≤ length ∧ length ≤ 512 ∧ length % 4 = 0 ∧ addr.toNat % 4 = 0 ∧ p.length = length) ∧
      ReqBody.posted (.memWrite addr length f l p) = true) ∧
  (∀ (t : CfgTarget) (length : Nat) (be : BitVec 4),
    (ReqBody.fits (.cfgRead t length be) = true ↔ length = 4 ∧ t.offset.toNat % 4 = 0) ∧
    ReqBody.posted (.cfgRead t length be) = false ∧
    ∀ p : List Byte,
      (ReqBody.fits (.cfgWrite t length be p) = true ↔
        length = 4 ∧ t.offset.toNat % 4 = 0 ∧ p.length = 4) ∧
      ReqBody.posted (.cfgWrite t length be p) = false) ∧
  (∀ m : Message, ReqBody.fits (.message m) = true ∧ ReqBody.posted (.message m) = true) ∧
  ∀ posted : Bool, ReqBody.fits (.unknown posted) = false ∧ ReqBody.posted (.unknown posted) = posted

/-- A host request that nobody takes: an UNROUTED or malformed one is counted as unrouted when posted, and answered
UNSUPPORTED through the free direct item when not. -/
def Sys2Proof.Parts.HostRequestNotTaken : Prop :=
  ∀ (s : State) (r : Request) (route : HostRoute) (rest : List HostQueued) (c : Instr),
    s.bridge.upIngress = { txn := .request r, route := route } :: rest →
    ((c = .unroutedRequest ∧ route = .unrouted ∧ ReqBody.fits r.body = true) ∨
      (c = .malformedRequest .upstream ∧ ReqBody.fits r.body = false)) →
    let b : Bridge := { s.bridge with upIngress := rest, stall := none, headAnswer := none }
    (ReqBody.posted r.body = true →
      exec c s = .next (onBridge s ({ b with unrouted := min (b.unrouted + 1) 65535 }))) ∧
    (ReqBody.posted r.body = false → s.bridge.direct = none →
      exec c s = .next (onBridge s (b.occupyDirect r .host (.single .unsupported) none)))

/-- Host requests that nobody takes, and the form that tells which are malformed. -/
def Obligations.HostRequestTurnedAway : Prop :=
  Parts.HostRequestNotTaken ∧ Parts.RequestForm

/-- A completion of the host that fits the OPEN entry of a card's read is placed in that card's FIFO under the card's
requester ID and tag, and the entry is freed or its bytes delivered advance. -/
def Sys2Proof.Parts.HostCompletionFits : Prop :=
  ∀ (s : State) (c : Completion) (route : HostRoute) (rest : List HostQueued) (i : BridgeTag)
    (account a : SlotId) (q : Requester) (d : Time) (r : EntryRecord),
    s.bridge.upIngress = { txn := .completion c, route := route } :: rest →
    c.id = s.settings.bridgeId → c.tag = BitVec.ofNat 16 i.val →
    s.bridge.status i = .inUse account r → (s.bridge.ort.get i).outcome = .clean →
    r.phase = .opened d → r.origin = .slot a q → r.target = .upstream → r.asked.fits c = true →
    (s.bridge.slot a).egress.length < 32 →
    let b : Bridge := { s.bridge with upIngress := rest, stall := none, headAnswer := none }
    let advanced := match r.asked.after c with
      | none => b.freeEntry i
      | some asked => b.putStatus i (.inUse account { r with asked := asked })
    exec .hostCompletionMatch s = .next (onBridge s ((advanced.pushEgress a .traffic
        (.completion { c with id := q.id, tag := q.tag })).settle s.settings))

/-- A completion of the host that is not forwarded is dropped: unexpected when its ID or tag names no entry whose
target is UPSTREAM or when it does not fit its OPEN entry, and late, counted in the account slot, when its entry is
held. -/
def Sys2Proof.Parts.HostCompletionDropped : Prop :=
  ∀ (s : State) (c : Completion) (route : HostRoute) (rest : List HostQueued),
    s.bridge.upIngress = { txn := .completion c, route := route } :: rest →
    let g := s.settings
    let b : Bridge := { s.bridge with upIngress := rest, stall := none, headAnswer := none }
    let answers := fun d : Bridge =>
      exec .hostCompletionMatch s = .next (onBridge s (d.settle g))
    let unexpected : Bridge := { b with unexpected := min (b.unexpected + 1) 65535 }
    (c.id ≠ g.bridgeId → answers unexpected) ∧
    (c.id = g.bridgeId → 256 ≤ c.tag.toNat → answers unexpected) ∧
    ∀ i : BridgeTag, c.id = g.bridgeId → c.tag = BitVec.ofNat 16 i.val →
      (s.bridge.status i = .free → answers unexpected) ∧
      (∀ a, s.bridge.status i = .lost a → answers unexpected) ∧
      ∀ a r, s.bridge.status i = .inUse a r → (s.bridge.ort.get i).outcome = .clean →
        (r.target ≠ .upstream → answers unexpected) ∧
        (∀ d, r.target = .upstream → r.phase = .opened d → r.asked.fits c = false →
          answers unexpected) ∧
        (r.target = .upstream → (∀ d, r.phase ≠ .opened d) →
          let late := b.modFault a fun f => { f with late := min (f.late + 1) 65535 }
          answers (if r.asked.lateFinishes c = true then late.releaseEntry i r else late))

/-- A completion of the host is forwarded to the card whose OPEN read it fits, or dropped. -/
def Obligations.HostCompletionForwarded : Prop :=
  Parts.HostCompletionFits ∧ Parts.HostCompletionDropped

/-! ### The management function and the aperture -/

/-- A claimed configuration request is answered in the bridge-origin queue: a read with the header word, a write with
SUCCESS and its enabled bytes taken, any other device or function UNSUPPORTED. -/
def Sys2Proof.Parts.ManagementConfigAnswered : Prop :=
  ∀ (s : State) (r : Request) (rest : List HostQueued) (t : CfgTarget),
    s.bridge.upIngress = { txn := .request r, route := .management } :: rest →
    ReqBody.fits r.body = true → s.bridge.bridgeQueue.length < 64 →
    let answered : Completion → Bridge := fun c => { s.bridge with
      upIngress := rest
      stall := none
      headAnswer := none
      bridgeQueue := s.bridge.bridgeQueue ++ [.completion c] }
    let own := t.device = 0 ∧ t.function = 0
    (∀ l be, r.body = .cfgRead t l be → own →
      exec .mgmtCfgRead s = .next (onBridge s (answered
        { status := .success, id := r.id, tag := r.tag, remaining := 4, lower := 0,
          data := bytesOf (s.settings.header.word t.offset.toNat) }))) ∧
    (∀ l be, r.body = .cfgRead t l be → ¬ own →
      exec .mgmtCfgRead s = .next (onBridge s (answered
        { status := .unsupported, id := r.id, tag := r.tag, remaining := 4, lower := 0,
          data := [] }))) ∧
    (∀ l be p, r.body = .cfgWrite t l be p → own →
      exec .mgmtCfgWrite s = .next { s with
        settings := { s.settings with header :=
          { s.settings.header.write t.offset.toNat be (wordOf p) with busNumber := some t.bus } }
        bridge := answered
          { status := .success, id := r.id, tag := r.tag, remaining := 4, lower := 0,
            data := [] } }) ∧
    (∀ l be p, r.body = .cfgWrite t l be p → ¬ own →
      exec .mgmtCfgWrite s = .next (onBridge s (answered
        { status := .unsupported, id := r.id, tag := r.tag, remaining := 4, lower := 0,
          data := [] })))

/-- The header of Table 10-1, word by word, and what a write leaves in the writable fields: each bit of an enabled byte
takes the payload's, and every other bit and field is as it was. -/
def Sys2Proof.Parts.HeaderWords : Prop :=
  ∀ (h : Header) (x : Word),
    h.word 0x00 = 0x4104C4A1 ∧ h.word 0x04 = (if h.memDecode = true then 2 else 0) ∧
    h.word 0x08 = 0xFF000001 ∧
    (h.word 0x10).extractLsb' 0 12 = 4 ∧
    (h.word 0x10).extractLsb' 12 20 = h.basePage.extractLsb' 0 20 ∧
    h.word 0x14 = h.basePage.extractLsb' 20 32 ∧
    (∀ offset, offset ∉ [0x00, 0x04, 0x08, 0x10, 0x14] → h.word offset = 0) ∧
    (h.write 0x04 0xF x).memDecode = x.getLsbD 1 ∧
    (h.write 0x10 0xF x).basePage.extractLsb' 0 20 = x.extractLsb' 12 20 ∧
    (h.write 0x10 0xF x).basePage.extractLsb' 20 32 = h.basePage.extractLsb' 20 32 ∧
    (h.write 0x14 0xF x).basePage.extractLsb' 20 32 = x ∧
    (h.write 0x14 0xF x).basePage.extractLsb' 0 20 = h.basePage.extractLsb' 0 20 ∧
    ∀ be : BitVec 4,
      h.write 0x04 be x
        = { h with memDecode := if be.getLsbD 0 then x.getLsbD 1 else h.memDecode } ∧
      (∃ page, h.write 0x10 be x = { h with basePage := page } ∧
        (∀ k, k < 20 → page.getLsbD k
          = if be.getLsbD ((12 + k) / 8) then x.getLsbD (12 + k) else h.basePage.getLsbD k) ∧
        ∀ k, 20 ≤ k → page.getLsbD k = h.basePage.getLsbD k) ∧
      (∃ page, h.write 0x14 be x = { h with basePage := page } ∧
        (∀ k, k < 32 → page.getLsbD (20 + k)
          = if be.getLsbD (k / 8) then x.getLsbD k else h.basePage.getLsbD (20 + k)) ∧
        ∀ k, k < 20 → page.getLsbD k = h.basePage.getLsbD k) ∧
      ∀ offset, offset ∉ [0x04, 0x10, 0x14] → h.write offset be x = h

/-- The bridge's requester ID: the taken bus number with device 0 and function 0, and bus 0 while none is taken. -/
def Sys2Proof.Parts.BridgeRequesterId : Prop :=
  ∀ g : Settings,
    (∀ bus, g.header.busNumber = some bus →
      g.bridgeId = { bus := bus, device := 0, function := 0 }) ∧
    (g.header.busNumber = none → g.bridgeId = { bus := 0, device := 0, function := 0 })

/-- Claimed configuration requests are answered, from the header of Table 10-1, and the requester ID that the bus number
gives the bridge. -/
def Obligations.ManagementConfigRequests : Prop :=
  Parts.ManagementConfigAnswered ∧ Parts.HeaderWords ∧ Parts.BridgeRequesterId

/-- A read that lies in the aperture is answered with its bytes; one that runs past the end is UNSUPPORTED, with the
length and address of the request in the answer, which is the model's choice (log 31). -/
def Sys2Proof.Parts.ApertureReadAnswered : Prop :=
  ∀ (s : State) (r : Request) (rest : List HostQueued) (addr : Addr) (length : Nat)
    (f l : BitVec 4),
    s.bridge.upIngress = { txn := .request r, route := .management } :: rest →
    r.body = .memRead addr length f l → ReqBody.fits r.body = true →
    s.bridge.bridgeQueue.length < 64 →
    let answered : Completion → State := fun c => { s with bridge := { s.bridge with
      upIngress := rest
      stall := none
      headAnswer := none
      bridgeQueue := s.bridge.bridgeQueue ++ [.completion c] } }
    let offset := addr.toNat % 4096
    (offset + length ≤ 4096 → ∃ data : List Byte,
      exec .apertureRead s = .next (answered
        { status := .success, id := r.id, tag := r.tag, remaining := length,
          lower := BitVec.ofNat 7 addr.toNat, data := data }) ∧
      data.length = length ∧
      ∀ k : Nat, k < length →
        data[k]? = some ((s.apertureWord ((offset + k) / 4)).extractLsb' (8 * ((offset + k) % 4)) 8)) ∧
    (4096 < offset + length →
      exec .apertureRead s = .next (answered
        { status := .unsupported, id := r.id, tag := r.tag, remaining := length,
          lower := BitVec.ofNat 7 addr.toNat, data := [] }))

/-- The summary record, word by word, and the words past it. -/
def Sys2Proof.Parts.SummaryRecord : Prop :=
  ∀ (s : State),
    (∀ n : SlotId,
      (s.apertureWord (256 + n.val)).extractLsb' 0 4
        = (match (s.bridge.slot n).stage with
          | .empty => 0
          | .off => 1
          | .powering _ => 2
          | .resetting _ _ => 3
          | .linking _ => 4
          | .qualifying => 5
          | .restoring _ => 6
          | .admitted => 7
          | .fenced => 8
          | .parked => 9) ∧
      (s.apertureWord (256 + n.val)).extractLsb' 4 4 = 0 ∧
      (s.apertureWord (256 + n.val)).extractLsb' 8 8 = (s.bridge.slot n).flags ∧
      (s.apertureWord (256 + n.val)).extractLsb' 16 16 = 0) ∧
    (s.apertureWord 260).extractLsb' 0 2 = s.bridge.partFlags ∧
    (s.apertureWord 260).extractLsb' 16 9 = BitVec.ofNat 9 s.bridge.lostCount ∧
    (s.apertureWord 261).extractLsb' 0 16 = BitVec.ofNat 16 s.mgmt.collisions ∧
    (s.apertureWord 261).extractLsb' 16 16 = BitVec.ofNat 16 s.bridge.unrouted ∧
    (s.apertureWord 262).extractLsb' 0 16 = BitVec.ofNat 16 s.bridge.unexpected ∧
    ∀ w : Nat, 263 ≤ w → s.apertureWord w = 0

/-- The sixteen words of a cell in the aperture: words 0 to 7 of the request as they are stored, the response word by
Table 10-9, and the seven result words. -/
def Sys2Proof.Parts.CellWordsRead : Prop :=
  ∀ (s : State) (k : CellId),
    let c := s.mgmt.cells.get k
    let response := s.apertureWord (16 * k.val + 8)
    (∀ j : Fin 8, s.apertureWord (16 * k.val + j.val) = c.request.get j) ∧
    hasField response 0 2
      (match c.state with
        | .idle => 0
        | .inProgress _ => 1
        | .done => 2) ∧
    hasField response 2 2 0 ∧
    hasField response 4 4
      (match c.status with
        | .done => 0
        | .wrongState => 1
        | .badArgument => 2
        | .overlap => 3
        | .noRoom => 4
        | .badOpcode => 5) ∧
    response.getLsbD 8 = c.allClear ∧ hasField response 9 7 0 ∧
    response.extractLsb' 16 16 = c.echo ∧
    ∀ j : Fin 7, s.apertureWord (16 * k.val + 9 + j.val) = c.results.get j

/-- Reads of the aperture, and the cells and the summary record that they read. -/
def Obligations.ApertureReads : Prop :=
  Parts.ApertureReadAnswered ∧ Parts.SummaryRecord ∧ Parts.CellWordsRead

/-- A write of the aperture is taken whole: CELL_SUBMIT when it enables a byte of word 0 of a cell, else
APERTURE_WRITE; one that runs past the end is discarded and counted as unrouted. -/
def Sys2Proof.Parts.ApertureWriteTaken : Prop :=
  ∀ (s : State) (r : Request) (rest : List HostQueued) (addr : Addr) (length : Nat)
    (f l : BitVec 4) (p : List Byte),
    s.bridge.upIngress = { txn := .request r, route := .management } :: rest →
    r.body = .memWrite addr length f l p → ReqBody.fits r.body = true →
    let b : Bridge := { s.bridge with upIngress := rest, stall := none, headAnswer := none }
    let ws := dwordWrites addr length f l p
    let inside := addr.toNat % 4096 + length ≤ 4096
    (inside → ws.any DwordWrite.submits = true →
      exec .cellSubmit s = .next { s with bridge := b, mgmt := s.mgmt.writeAll ws }) ∧
    (inside → ws.any DwordWrite.submits = false →
      exec .apertureWrite s = .next { s with bridge := b, mgmt := s.mgmt.writeAll ws }) ∧
    (¬ inside →
      exec .apertureWrite s
        = .next (onBridge s ({ b with unrouted := min (b.unrouted + 1) 65535 })))

/-- What one dword of a write does to the cells: word 0 submits an IDLE or DONE cell, or counts a collision; words 1
to 7 are stored, byte by byte; the rest is ignored. -/
def Sys2Proof.Parts.CellWords : Prop :=
  ∀ (m : Mgmt) (k : CellId) (be : BitVec 4) (data : Word), be ≠ 0 →
    let c := m.cells.get k
    (∀ a, c.state = .inProgress a →
      m.writeAll [{ index := 16 * k.val, be := be, data := data }]
        = { m with collisions := min (m.collisions + 1) 65535 }) ∧
    ((∀ a, c.state ≠ .inProgress a) →
      let request := c.request.set 0 (mergeBytes be (c.request.get 0) data)
      m.writeAll [{ index := 16 * k.val, be := be, data := data }]
        = { m with
            cells := m.cells.set k
              { request := request
                state := .inProgress request
                status := .done
                allClear := false
                echo := c.echo
                results := Vector.replicate 7 0 }
            queue := m.queue ++ [k] }) ∧
    (∀ j : Fin 8, j ≠ 0 →
      m.writeAll [{ index := 16 * k.val + j.val, be := be, data := data }]
        = m.setCell k { c with
            request := c.request.set j (mergeBytes be (c.request.get j) data) }) ∧
    ∀ j : Nat, 8 ≤ j → j < 16 →
      m.writeAll [{ index := 16 * k.val + j, be := be, data := data }] = m

/-- The dwords of a write in ascending order: from the word of its first address on, each with four bytes of the payload;
the first mask goes with the first dword and the last with the last, a single dword taking the first, which is
presumed of the family (log 8). -/
def Sys2Proof.Parts.DwordsOfWrite : Prop :=
  ∀ (addr : Addr) (length : Nat) (f l : BitVec 4) (p : List Byte),
    let ws := dwordWrites addr length f l p
    ws.length = length / 4 ∧
    ∀ d : Nat, d < length / 4 → ∃ data : Word,
      ws[d]? = some { index := addr.toNat % 4096 / 4 + d,
                      be := if d = 0 then f else if d + 1 = length / 4 then l else 0xF,
                      data := data } ∧
      ∀ k : Nat, k < 4 → data.extractLsb' (8 * k) 8 = p.getD (4 * d + k) 0

/-- What a write of several dwords does to the cells, whichever words of whichever cells it covers: words 1 to 7 of a
cell are stored before its word 0 is taken, so a cell it submits takes them into its argument copy; the cells
submitted join the queue in ascending order; each cell found IN-PROGRESS keeps its word 0 and counts a collision. -/
def Sys2Proof.Parts.WholeWrites : Prop :=
  ∀ (m : Mgmt) (ws : List DwordWrite), (ws.Pairwise fun v w => v.index < w.index) →
    let t := m.writeAll ws
    let submits := fun k : CellId =>
      ws.any fun w => decide (w.index = 16 * k.val) && decide (w.be ≠ 0)
    let busy := fun k : CellId =>
      match (m.cells.get k).state with
      | .inProgress _ => true
      | .idle => false
      | .done => false
    let stored := fun (k : CellId) (j : Fin 8) =>
      let old := (m.cells.get k).request.get j
      match ws.find? fun w => decide (w.index = 16 * k.val + j.val) with
      | some w => mergeBytes w.be old w.data
      | none => old
    let collided := ((List.finRange 16).filter fun k => submits k && busy k).length
    t.queue = m.queue ++ (List.finRange 16).filter (fun k => submits k && !(busy k)) ∧
    (collided = 0 → t.collisions = m.collisions) ∧
    (0 < collided → t.collisions = min (m.collisions + collided) 65535) ∧
    ∀ k : CellId,
      (submits k = true → busy k = false →
        t.cells.get k
          = { request := Vector.ofFn (stored k)
              state := .inProgress (Vector.ofFn (stored k))
              status := .done
              allClear := false
              echo := (m.cells.get k).echo
              results := Vector.replicate 7 0 }) ∧
      (submits k = false ∨ busy k = true →
        t.cells.get k = { m.cells.get k with
          request := Vector.ofFn fun j =>
            if j = 0 then (m.cells.get k).request.get 0 else stored k j })

/-- Writes of the aperture, and what one dword and several dwords of a write do to the cells. -/
def Obligations.ApertureWrites : Prop :=
  Parts.ApertureWriteTaken ∧ Parts.CellWords ∧ Parts.DwordsOfWrite ∧ Parts.WholeWrites

/-! ### The head of a Card Ingress Queue -/

/-- A granted request at the head of an ADMITTED slot with all it needs, by Table 1-6. -/
def Obligations.CardRequestForwarded : Prop :=
  ∀ (s : State) (n : SlotId) (r : Request) (dest : CardDest) (rest : List CardQueued),
    (s.bridge.slot n).ingress = { txn := .request r, route := .checked dest true } :: rest →
    ReqBody.fits r.body = true → (s.bridge.slot n).stage = .admitted →
    let b := s.bridge.modSlot n fun x => { x with ingress := rest }
    let entry := fun (target : Side) (asked : Asked) (limit : Time) (answer : Option FenceAnswer) =>
      ({ phase := .opened (s.bridge.now + limit), origin := .slot n { id := r.id, tag := r.tag },
         target := target, asked := asked, allocatedAt := s.bridge.now,
         answer := answer } : EntryRecord)
    let sent := fun i : BridgeTag =>
      Transaction.request { r with id := s.settings.bridgeId, tag := BitVec.ofNat 16 i.val }
    (dest = .upstream → (s.bridge.slot n).upQueue.length < 32 → ReqBody.posted r.body = true →
      exec (.cardHeadForward n) s = .next (onBridge s (b.pushUpQueue n (.request r)))) ∧
    (∀ i asked, dest = .upstream → (s.bridge.slot n).upQueue.length < 32 →
      ReqBody.posted r.body = false → ReqBody.asked r.body = some asked →
      s.bridge.offeredEntry s.settings n = some i →
      exec (.cardHeadForward n) s = .next (onBridge s ((b.putStatus i (.inUse n
        (entry .upstream asked (budget s.settings.part.hostAnswerCode) none))).pushUpQueue n
        (sent i)))) ∧
    (∀ m answer, dest = .peer m answer → (s.bridge.slot m).stage = .admitted →
      (s.bridge.slot m).egress.length < 32 → ReqBody.posted r.body = true →
      exec (.cardHeadForward n) s = .next (onBridge s (b.pushEgress m .traffic (.request r)))) ∧
    (∀ i asked m answer, dest = .peer m answer → (s.bridge.slot m).stage = .admitted →
      (s.bridge.slot m).egress.length < 32 → ReqBody.posted r.body = false →
      ReqBody.asked r.body = some asked → s.bridge.offeredEntry s.settings n = some i →
      exec (.cardHeadForward n) s = .next (onBridge s ((b.putStatus i (.inUse n
        (entry (.slot m) asked (s.settings.slotBudget m) (some answer)))).pushEgress m .traffic
        (sent i)))) ∧
    (∀ m answer, dest = .peer m answer → (s.bridge.slot m).stage ≠ .admitted →
      ReqBody.posted r.body = true →
      exec (.cardHeadForward n) s = .next (onBridge s (b.countDiscarded m 1))) ∧
    (∀ m answer, dest = .peer m answer → (s.bridge.slot m).stage ≠ .admitted →
      ReqBody.posted r.body = false → s.bridge.direct = none →
      exec (.cardHeadForward n) s = .next (onBridge s (b.occupyDirect r (.card n)
        (if answer = .ones then .pieces else .single .aborted) (some m))))

/-- A refused request at the head of an ADMITTED slot is a violation: discarded or answered ABORTED, counted and
alerted, and under fence-on-violation reported to the sequencer. -/
def Sys2Proof.Parts.CardRequestRefused : Prop :=
  ∀ (s : State) (n : SlotId) (r : Request) (dest : CardDest) (rest : List CardQueued),
    (s.bridge.slot n).ingress = { txn := .request r, route := .checked dest false } :: rest →
    ReqBody.fits r.body = true → (s.bridge.slot n).stage = .admitted →
    (ReqBody.posted r.body = true ∨ s.bridge.direct = none) →
    let popped := s.bridge.modSlot n fun x => { x with ingress := rest }
    let gone := if ReqBody.posted r.body = true then popped
      else popped.occupyDirect r (.card n) (.single .aborted) (some n)
    let alerted := (gone.modFault n fun f =>
      { f with violations := min (f.violations + 1) 65535 }).raise s.settings (.slot n .violation)
    let final := if (s.settings.policy n).fenceOnViolation = true
      then alerted.takeTrigger s.settings n .violation else alerted
    exec (.cardHeadRefused n) s = .next (onBridge s (final.settle s.settings))

/-- A message at the head: an ERROR is counted by its severity and alerted, a FATAL one is reported as CARD_FATAL, and
what an ADMITTED slot forwards goes into its upstream queue; an opaque message of another slot is discarded. -/
def Obligations.CardMessageHandled : Prop :=
  ∀ (s : State) (n : SlotId) (r : Request) (route : CardRoute) (m : Message)
    (rest : List CardQueued),
    (s.bridge.slot n).ingress = { txn := .request r, route := route } :: rest →
    r.body = .message m →
    let g := s.settings
    let admitted := (s.bridge.slot n).stage = .admitted
    let forwards := admitted ∧ (g.policy n).messagePolicy = .forward
    let popped := s.bridge.modSlot n fun x => { x with ingress := rest }
    let pushed := popped.pushUpQueue n (.request r)
    let noted := fun (b : Bridge) (f : FaultRecord → FaultRecord) =>
      (b.modFault n f).raise g (.slot n .cardErrorMsg)
    let soft := fun f : FaultRecord => { f with nonfatal := min (f.nonfatal + 1) 65535 }
    let mild := fun f : FaultRecord => { f with correctable := min (f.correctable + 1) 65535 }
    let answers := fun b : Bridge =>
      exec (.cardHeadMessage n) s = .next (onBridge s (b.settle g))
    (m = .error .fatal → answers ((noted popped id).takeTrigger g n .cardFatal)) ∧
    (m = .error .nonfatal → ¬ forwards → answers (noted popped soft)) ∧
    (m = .error .correctable → ¬ forwards → answers (noted popped mild)) ∧
    (m = .error .nonfatal → forwards → (s.bridge.slot n).upQueue.length < 32 →
      answers (noted pushed soft)) ∧
    (m = .error .correctable → forwards → (s.bridge.slot n).upQueue.length < 32 →
      answers (noted pushed mild)) ∧
    (∀ c, m = .sealed c → admitted → (s.bridge.slot n).upQueue.length < 32 → answers pushed) ∧
    ∀ c, m = .sealed c → ¬ admitted → answers (popped.countDiscarded n 1)

/-- A card's request that is neither forwarded nor a violation: malformed, or of a slot that is not ADMITTED. It is
discarded and counted when posted, and answered ABORTED through the free direct item when not. -/
def Sys2Proof.Parts.CardRequestTurnedAway : Prop :=
  ∀ (s : State) (n : SlotId) (r : Request) (route : CardRoute) (rest : List CardQueued)
    (c : Instr),
    (s.bridge.slot n).ingress = { txn := .request r, route := route } :: rest →
    ((c = .malformedRequest (.slot n) ∧ ReqBody.fits r.body = false) ∨
      (c = .cardHeadNotAdmitted n ∧ ReqBody.fits r.body = true ∧
        (∀ m, r.body ≠ .message m) ∧ (s.bridge.slot n).stage ≠ .admitted)) →
    let b := s.bridge.modSlot n fun x => { x with ingress := rest }
    (ReqBody.posted r.body = true →
      exec c s = .next (onBridge s (b.countDiscarded n 1))) ∧
    (ReqBody.posted r.body = false → s.bridge.direct = none →
      exec c s
        = .next (onBridge s (b.occupyDirect r (.card n) (.single .aborted) (some n))))

/-- Card requests that are violations, malformed, or of a slot that is not ADMITTED. -/
def Obligations.CardRequestsNotForwarded : Prop :=
  Parts.CardRequestRefused ∧ Parts.CardRequestTurnedAway

/-- A card's completion that fits an OPEN entry is forwarded to its origin under the original requester ID and tag:
into the arriving slot's upstream queue for the host, into the origin card's FIFO for a peer read; the entry is freed
or its bytes delivered advance. A host configuration write with a pending note that an ADMITTED slot's card answers
SUCCESS is offered to the shadow first; the other completions offer nothing. -/
def Sys2Proof.Parts.CardCompletionForwarded : Prop :=
  ∀ (s : State) (n : SlotId) (c : Completion) (route : CardRoute) (rest : List CardQueued)
    (i : BridgeTag) (account : SlotId) (q : Requester) (d : Time) (r : EntryRecord),
    (s.bridge.slot n).ingress = { txn := .completion c, route := route } :: rest →
    c.id = s.settings.bridgeId → c.tag = BitVec.ofNat 16 i.val →
    s.bridge.status i = .inUse account r → (s.bridge.ort.get i).outcome = .clean →
    r.phase = .opened d → r.target = .slot n → r.asked.fits c = true →
    let b := s.bridge.modSlot n fun x => { x with ingress := rest }
    let back := Transaction.completion { c with id := q.id, tag := q.tag }
    let advanced := fun d : Bridge => match r.asked.after c with
      | none => d.freeEntry i
      | some asked => d.putStatus i (.inUse account { r with asked := asked })
    let toHost := fun d : Bridge => exec (.cardCompletionMatch n) s
      = .next (onBridge s (((advanced d).pushUpQueue n back).settle s.settings))
    let note := s.bridge.notes.find? fun m => decide (m.tag = i)
    let captures := (∃ t be, r.asked = .cfgWrite t be) ∧ c.status = .success ∧
      (s.bridge.slot n).stage = .admitted
    (∀ m : Note, r.origin = .upstream q → (s.bridge.slot n).upQueue.length < 32 →
      captures → note = some m →
      toHost (b.offerWrite s.settings m.slot m.bus m.function m.offset m.be m.payload).1) ∧
    (r.origin = .upstream q → (s.bridge.slot n).upQueue.length < 32 →
      ¬ captures ∨ note = none → toHost b) ∧
    ∀ a, r.origin = .slot a q → (s.bridge.slot a).egress.length < 32 →
      exec (.cardCompletionMatch n) s = .next (onBridge s
        (((advanced b).pushEgress a .traffic back).settle s.settings))

/-- A card's completion that fits an OPEN entry of origin BRIDGE frees the entry and is delivered to the block of its
purpose. -/
def Sys2Proof.Parts.BridgeAnswerDelivered : Prop :=
  ∀ (s : State) (n : SlotId) (c : Completion) (route : CardRoute) (rest : List CardQueued)
    (i : BridgeTag) (account : SlotId) (purpose : Purpose) (d : Time) (r : EntryRecord),
    (s.bridge.slot n).ingress = { txn := .completion c, route := route } :: rest →
    c.id = s.settings.bridgeId → c.tag = BitVec.ofNat 16 i.val →
    s.bridge.status i = .inUse account r → (s.bridge.ort.get i).outcome = .clean →
    r.phase = .opened d → r.target = .slot n → r.asked.fits c = true →
    r.origin = .bridge purpose →
    let freed := (s.bridge.modSlot n fun x => { x with ingress := rest }).freeEntry i
    let acted := match purpose with
      | .script _ => freed.scriptAnswer s.settings i c.status c.data
      | .replay _ => freed.replayAnswer s.settings n i c.status
    exec (.cardCompletionMatch n) s = .next (onBridge s (acted.settle s.settings))

/-- A card's completion that fits its OPEN entry reaches its origin: the host, a card, or a block of the bridge. -/
def Obligations.CardCompletionTaken : Prop :=
  Parts.CardCompletionForwarded ∧ Parts.BridgeAnswerDelivered

/-- A card's completion that is not forwarded is dropped: unexpected when it names no entry of its side, late when its
entry is held, a completion fault when it does not fit its OPEN entry. -/
def Sys2Proof.Parts.CardCompletionNotTaken : Prop :=
  ∀ (s : State) (n : SlotId) (c : Completion) (route : CardRoute) (rest : List CardQueued),
    (s.bridge.slot n).ingress = { txn := .completion c, route := route } :: rest →
    let g := s.settings
    let b := s.bridge.modSlot n fun x => { x with ingress := rest }
    let answers := fun d : Bridge =>
      exec (.cardCompletionMatch n) s = .next (onBridge s (d.settle g))
    let unexpected := b.modFault n fun f => { f with unexpected := min (f.unexpected + 1) 65535 }
    (c.id ≠ g.bridgeId → answers unexpected) ∧
    (c.id = g.bridgeId → 256 ≤ c.tag.toNat → answers unexpected) ∧
    ∀ i : BridgeTag, c.id = g.bridgeId → c.tag = BitVec.ofNat 16 i.val →
      (s.bridge.status i = .free → answers unexpected) ∧
      (∀ a, s.bridge.status i = .lost a → answers unexpected) ∧
      ∀ a r, s.bridge.status i = .inUse a r → (s.bridge.ort.get i).outcome = .clean →
        (r.target ≠ .slot n → answers unexpected) ∧
        (∀ d, r.target = .slot n → r.phase = .opened d → r.asked.fits c = false →
          answers (b.takeTrigger g n .completionFault)) ∧
        (r.target = .slot n → (∀ d, r.phase ≠ .opened d) →
          let late := b.modFault n fun f => { f with late := min (f.late + 1) 65535 }
          answers (if r.asked.lateFinishes c = true then late.releaseEntry i r else late))

/-- Which completions fit what an OPEN entry has asked for, what is left of it after one that fits, and which late
completions finish the debt. -/
def Sys2Proof.Parts.CompletionFit : Prop :=
  ∀ c : Completion,
    (∀ (addr : Addr) (length delivered : Nat),
      let asked := Asked.memRead addr length delivered
      let bytes := c.data.length
      (asked.fits c = true ↔
        (c.status = .success ∧ 0 < bytes ∧ bytes % 4 = 0 ∧
          c.lower.toNat = (addr.toNat + delivered) % 128 ∧ c.remaining = length - delivered ∧
          bytes ≤ length - delivered) ∨
        c.status = .unsupported ∨ c.status = .aborted) ∧
      (c.status = .success → delivered + bytes ≠ length →
        asked.after c = some (.memRead addr length (delivered + bytes))) ∧
      (c.status ≠ .success ∨ delivered + bytes = length → asked.after c = none) ∧
      (asked.lateFinishes c = true ↔ c.status ≠ .success ∨ c.remaining = bytes)) ∧
    (∀ (t : CfgTarget) (be : BitVec 4),
      let asked := Asked.cfgRead t be
      (asked.fits c = true ↔
        (c.status = .success ∧ c.data.length = 4 ∧ c.remaining = 4) ∨
        (c.status ≠ .success ∧ c.data = [])) ∧
      asked.after c = none ∧ asked.lateFinishes c = true) ∧
    ∀ (t : CfgTarget) (be : BitVec 4),
      let asked := Asked.cfgWrite t be
      (asked.fits c = true ↔ c.data = []) ∧ asked.after c = none ∧ asked.lateFinishes c = true

/-- A card's completion that is not forwarded, and the fit that decides it. -/
def Obligations.CardCompletionDropped : Prop :=
  Parts.CardCompletionNotTaken ∧ Parts.CompletionFit

/-! ### What leaves the bridge -/

/-- The head of a Slot Egress FIFO goes to the downstream link that is UP: traffic in ADMITTED, the bridge's own
requests in QUALIFYING and RESTORING, stand-ins while SRST is released. The last two conditions are the model's
reading (log 17). A non-posted request leaves under the bridge's requester ID as it stands now, the moment of sending
being the model's reading of the rule (log 7); every other transaction leaves as it is. -/
def Sys2Proof.Parts.EgressHeadSent : Prop :=
  ∀ (s : State) (n : SlotId) (x : EgressTxn) (rest : List EgressTxn),
    (s.bridge.slot n).egress = x :: rest → (s.bridge.slot n).linkUp = true →
    (match x.source with
      | .traffic => (s.bridge.slot n).stage = .admitted
      | .bridgeRequest => (s.bridge.slot n).stage = .qualifying ∨
          ∃ r, (s.bridge.slot n).stage = .restoring r
      | .standIn => (s.bridge.slot n).stage.srst = false) →
    let sends := fun t : Transaction =>
      exec (.egressFifoSend n) s = .next (onBridge s (s.bridge.modSlot n fun y =>
        { y with egress := rest, cardOut := some t }))
    (∀ r : Request, x.txn = .request r → ReqBody.posted r.body = false →
      sends (.request { r with id := s.settings.bridgeId })) ∧
    ((∀ r : Request, x.txn = .request r → ReqBody.posted r.body = true) → sends x.txn)

/-- A grant takes the bridge-origin queue's head if there is one, and leaves the pointer and the burst alone; else a
slot by round-robin; with every queue empty it changes nothing. An alert write leaves under the bridge's requester ID
as it stands now (log 7). -/
def Sys2Proof.Parts.ArbiterGrantsBySource : Prop :=
  ∀ s : State,
    (∀ c rest, s.bridge.bridgeQueue = .completion c :: rest →
      exec .arbiterGrant s
        = .next (onBridge s { s.bridge with
            bridgeQueue := rest, linkOut := some (.completion c) })) ∧
    (∀ r rest, s.bridge.bridgeQueue = .request r :: rest →
      exec .arbiterGrant s
        = .next (onBridge s { s.bridge with
            bridgeQueue := rest
            linkOut := some (.request { r with id := s.settings.bridgeId }) })) ∧
    (s.bridge.bridgeQueue = [] → ∀ n : SlotId,
      (n = s.bridge.pointer ∧ (s.bridge.slot n).upQueue ≠ [] ∧
          s.bridge.burst < s.settings.part.burst →
        exec .arbiterGrant s
          = .next (onBridge s { s.bridge.grantSlot s.settings n with burst := s.bridge.burst + 1 })) ∧
      (((s.bridge.slot s.bridge.pointer).upQueue = [] ∨
          s.settings.part.burst ≤ s.bridge.burst) →
        (s.bridge.slot n).upQueue ≠ [] →
        (∀ m : SlotId, (m - s.bridge.pointer - 1).val < (n - s.bridge.pointer - 1).val →
          (s.bridge.slot m).upQueue = []) →
        exec .arbiterGrant s
          = .next (onBridge s { s.bridge.grantSlot s.settings n with pointer := n, burst := 1 }))) ∧
    (s.bridge.bridgeQueue = [] → (∀ n : SlotId, (s.bridge.slot n).upQueue = []) →
      exec .arbiterGrant s = .next s)

/-- A granted slot's upstream queue gives its head to the link, and the items that wait on that queue wait for one
departure less; a card's read leaves under the bridge's requester ID as it stands now (log 7). -/
def Sys2Proof.Parts.GrantDrainsQueue : Prop :=
  ∀ (b : Bridge) (g : Settings) (n : SlotId) (t : Transaction) (rest : List Transaction),
    (b.slot n).upQueue = t :: rest →
    let out := match t with
      | .request r =>
        if ReqBody.posted r.body then t else .request { r with id := g.bridgeId }
      | .completion _ => t
    b.grantSlot g n
      = { b.modSlot n (fun x => { x with upQueue := rest }) with
          linkOut := some out
          workList := b.workList.map fun x =>
            match x.dest with
            | .host m k => if m = n then { x with dest := .host m (k - 1) } else x
            | .card _ => x }

/-- What leaves the bridge: the head of a Slot Egress FIFO, and the arbiter's grant by source. -/
def Obligations.TransmitSide : Prop :=
  Parts.EgressHeadSent ∧ Parts.ArbiterGrantsBySource ∧ Parts.GrantDrainsQueue

/-- The earliest item that is ready hands on its next completion: an item for HOST is ready when its drain count is 0 and
the bridge-origin queue has room, one for a card when the card's FIFO has room (and its SRST is released: log 18). A
begun item hands on its next piece; an item not begun is begun from its entry's record and answers pieces, 0xFFFFFFFF
or one ABORTED completion. Each completion is counted in the target slot, or for target UPSTREAM in the account slot,
which is the origin card's; the last takes the item off the list. With no item ready nothing is handed on. -/
def Sys2Proof.Parts.StandInItemHandedOn : Prop :=
  ∀ s : State,
    let g := s.settings
    let ready := fun y : EntryItem => match y.dest with
      | .host _ drain => drain = 0 ∧ s.bridge.bridgeQueue.length < 64
      | .card a => (s.bridge.slot a).stage.srst = false ∧ (s.bridge.slot a).egress.length < 32
    let answers := fun b : Bridge =>
      exec .standInHandOn s = .next (onBridge s (b.settle g))
    ((∀ y ∈ s.bridge.workList, ¬ ready y) → answers s.bridge) ∧
    ∀ (pre post : List EntryItem) (x : EntryItem), s.bridge.workList = pre ++ x :: post →
      (∀ y ∈ pre, ¬ ready y) → ready x →
      let counted := fun (c : Completion) (n : SlotId) =>
        let placed := match x.dest with
          | .host _ _ => s.bridge.pushBridgeQueue (.completion c)
          | .card a => s.bridge.pushEgress a .standIn (.completion c)
        placed.modFault n fun f => { f with standInPieces := min (f.standInPieces + 1) 65535 }
      let piece := fun k : Begun =>
        let stop := min k.stop ((k.next / g.part.pieceSize + 1) * g.part.pieceSize)
        let after := counted
          { status := .success, id := k.requester.id, tag := k.requester.tag,
            remaining := k.stop - k.next, lower := BitVec.ofNat 7 k.next,
            data := List.replicate (stop - k.next) 0xFF } k.counted
        if stop = k.stop then after.finishItem g x.entry
        else { after with workList := after.workList.map fun y =>
          if y.entry = x.entry then { x with begun := some { k with next := stop } } else y }
      (∀ k, x.begun = some k → answers (piece k)) ∧
      ∀ account r q, x.begun = none → s.bridge.status x.entry = .inUse account r →
        (s.bridge.ort.get x.entry).outcome = .clean → r.origin.requester = some q →
        let n := match r.target with
          | .slot m => m
          | .upstream => account
        let single := fun (status : Status) (remaining : Nat) (lower : BitVec 7) (data : List Byte) =>
          (counted { status := status, id := q.id, tag := q.tag, remaining := remaining,
                     lower := lower, data := data } n).finishItem g x.entry
        (∀ a l d, r.asked = .memRead a l d →
          (r.answer = some .ones → answers (piece
            { requester := q, next := a.toNat + d, stop := a.toNat + l, counted := n })) ∧
          (r.answer ≠ some .ones →
            answers (single .aborted (l - d) (BitVec.ofNat 7 (a.toNat + d)) []))) ∧
        (∀ t be, r.asked = .cfgRead t be →
          (r.answer = some .ones → answers (single .success 4 0 (bytesOf 0xFFFFFFFF))) ∧
          (r.answer ≠ some .ones → answers (single .aborted 4 0 []))) ∧
        ∀ t be, r.asked = .cfgWrite t be → answers (single .aborted 4 0 [])

/-- The end of an item: it leaves the list, and taking the report reads the entry's record. A STOOD-IN entry whose release
is pending goes to FREE; another stays STOOD-IN with its item LEFT; one found uncorrectable by that read stays LOST,
and a FREE or LOST index is not read. -/
def Sys2Proof.Parts.ItemEnds : Prop :=
  ∀ (b : Bridge) (g : Settings) (i : BridgeTag),
    let c : Bridge := { b with workList := b.workList.filter fun y => decide (y.entry ≠ i) }
    let read := (c.readEntry g i .itemLeft).1
    let word := b.ort.get i
    let ends := b.finishItem g i
    ((b.status i).isInUse = false → ends = c) ∧
    ∀ account r, b.status i = .inUse account r →
      (2 ≤ word.flips + word.stuck → ends = read ∧ ends.status i = .lost account) ∧
      (word.flips + word.stuck ≤ 1 → ∀ hold listed,
        (r.phase = .stoodIn hold listed true →
          ends = read.freeEntry i ∧ ends.status i = .free) ∧
        (r.phase = .stoodIn hold listed false →
          ends = read.putStatus i
            (.inUse account { r with phase := .stoodIn hold false false })))

/-- What an entry item answers, by Table 3-4, and the fields of a single completion. -/
def Sys2Proof.Parts.StandInAnswer : Prop :=
  ∀ (r : EntryRecord) (q : Requester) (status : Status),
    (∀ a l d, r.asked = .memRead a l d →
      (r.answer = some .ones → r.standIn = .pieces) ∧
      (r.answer = some .error ∨ r.answer = none → r.standIn = .single .aborted) ∧
      r.asked.singleFor q status
        = { status := status, id := q.id, tag := q.tag, remaining := l - d,
            lower := BitVec.ofNat 7 (a.toNat + d), data := [] }) ∧
    (∀ t be, r.asked = .cfgRead t be →
      (r.answer = some .ones → r.standIn = .cfgOnes) ∧
      (r.answer = some .error → r.standIn = .single .aborted) ∧
      r.asked.singleFor q status
        = { status := status, id := q.id, tag := q.tag, remaining := 4, lower := 0, data := [] }) ∧
    ∀ t be, r.asked = .cfgWrite t be →
      r.standIn = .single .aborted ∧
      r.asked.singleFor q status
        = { status := status, id := q.id, tag := q.tag, remaining := 4, lower := 0, data := [] }

/-- Entry items of the Stand-in Work List are handed on, with the answers of Table 3-4, and end. -/
def Obligations.StandInItems : Prop :=
  Parts.StandInItemHandedOn ∧ Parts.StandInAnswer ∧ Parts.ItemEnds

/-- The direct item hands on its next completion when its destination takes one, and becomes free with the last; one
toward a card is removed unanswered once the card's budget has passed since it became occupied. -/
def Sys2Proof.Parts.DirectItemAnswers : Prop :=
  ∀ (s : State) (d : DirectItem), s.bridge.direct = some d →
    let g := s.settings
    let ready := match d.reply with
      | .host => s.bridge.bridgeQueue.length < 64
      | .card a => (s.bridge.slot a).stage.srst = false ∧ (s.bridge.slot a).egress.length < 32
    let placed := fun c : Completion => match d.reply with
      | .host => s.bridge.pushBridgeQueue (.completion c)
      | .card a => s.bridge.pushEgress a .standIn (.completion c)
    let counted := fun c : Completion => match d.counted with
      | some n => (placed c).modFault n fun f =>
          { f with standInPieces := min (f.standInPieces + 1) 65535 }
      | none => placed c
    let answers := fun b : Bridge => exec .directItemHandOn s = .next (onBridge s b)
    (ready → d.answer = .pieces →
      let finish := match d.request.body with
        | .memRead addr length _ _ => addr.toNat + length
        | .memWrite addr length _ _ _ => addr.toNat + length
        | _ => 0
      let stop := min finish ((d.next / g.part.pieceSize + 1) * g.part.pieceSize)
      let after := counted
        { status := .success, id := d.request.id, tag := d.request.tag,
          remaining := finish - d.next, lower := BitVec.ofNat 7 d.next,
          data := List.replicate (stop - d.next) 0xFF }
      answers (if stop = finish then { after with direct := none }
        else { after with direct := some { d with next := stop } })) ∧
    (ready → d.answer = .cfgOnes →
      let after := counted
        { status := .success, id := d.request.id, tag := d.request.tag, remaining := 4, lower := 0,
          data := bytesOf 0xFFFFFFFF }
      answers { after with direct := none }) ∧
    (∀ status, ready → d.answer = .single status →
      let single := fun (remaining : Nat) (lower : BitVec 7) =>
        let after := counted
          { status := status, id := d.request.id, tag := d.request.tag, remaining := remaining,
            lower := lower, data := [] }
        answers { after with direct := none }
      (∀ addr length f l, d.request.body = .memRead addr length f l →
        single (if 4 ≤ length ∧ length ≤ 4096 ∧ length % 4 = 0 then length else 4)
          (BitVec.ofNat 7 (addr.toNat - addr.toNat % 4))) ∧
      ((∀ addr length f l, d.request.body ≠ .memRead addr length f l) → single 4 0)) ∧
    (∀ a, d.reply = .card a → reached s.bridge.now (d.since + s.settings.slotBudget a) = true →
      exec .directItemTimeout s = .next (onBridge s { s.bridge with direct := none }))

/-- A request occupies the direct item with its answer, the moment, and the address of a memory request as the first
position of an answer in pieces. -/
def Sys2Proof.Parts.DirectItemOccupied : Prop :=
  ∀ (b : Bridge) (r : Request) (reply : ReplyTo) (answer : StandIn) (counted : Option SlotId),
    let item : DirectItem :=
      { request := r
        reply := reply
        answer := answer
        next := match r.body with
          | .memRead addr _ _ _ => addr.toNat
          | .memWrite addr _ _ _ _ => addr.toNat
          | _ => 0
        counted := counted
        since := b.now }
    b.occupyDirect r reply answer counted = { b with direct := some item }

/-- The direct item from its occupation to its last completion. -/
def Obligations.DirectItemHandedOn : Prop :=
  Parts.DirectItemOccupied ∧ Parts.DirectItemAnswers

/-- The head pair of the send list becomes an alert write when its enable is on and the address is not 0, and is
dropped otherwise. The write's tag is a free value (log 9) and its last-dword mask the model's choice (log 8). -/
def Sys2Proof.Parts.AlertWriteFormed : Prop :=
  ∀ (s : State) (p : AlertPair) (rest : List AlertPair),
    s.bridge.sendList = p :: rest → s.bridge.bridgeQueue.length < 64 →
    let sendable := p.enabled s.settings = true ∧ s.settings.alert.address ≠ 0
    (sendable → ∃ tag : Tag,
      exec .alertWriteForm s = .next (onBridge s { s.bridge with
        sendList := rest
        env := { s.bridge.env with draws := s.bridge.env.draws + 1 }
        bridgeQueue := s.bridge.bridgeQueue ++ [.request
          { id := s.settings.bridgeId, tag := tag,
            body := .memWrite s.settings.alert.address 4 0xF 0
              (bytesOf (p.word s.settings.alert.data)) }] })) ∧
    (¬ sendable →
      exec .alertWriteForm s = .next (onBridge s { s.bridge with sendList := rest }))

/-- The alert word: the kind's code in bits 0 to 4, bit 5 clear, the slot in bits 6 and 7 (0 for a part kind), and bits
8 to 31 of the alert data. It is the payload of the 4-byte alert write, and the forming of the write changes no
word of the aperture. -/
def Obligations.AlertWordLayout : Prop :=
  (∀ (data : Word) (n : SlotId) (k : SlotAlert),
    let w := (AlertPair.slot n k).word data
    w.extractLsb' 0 5
        = (match k with
          | .fenced => 1
          | .admitted => 2
          | .parked => 3
          | .powerFault => 4
          | .presenceChange => 5
          | .attention => 6
          | .violation => 7
          | .cardErrorMsg => 8) ∧
      w.getLsbD 5 = false ∧ w.extractLsb' 6 2 = BitVec.ofNat 2 n.val ∧
      w.extractLsb' 8 24 = data.extractLsb' 8 24) ∧
  (∀ (data : Word) (k : PartAlert),
    let w := (AlertPair.part k).word data
    w.extractLsb' 0 5
        = (match k with
          | .eccCorrected => 16
          | .eccUncorrectable => 17) ∧
      w.getLsbD 5 = false ∧ w.extractLsb' 6 2 = 0 ∧
      w.extractLsb' 8 24 = data.extractLsb' 8 24) ∧
  (∀ (g : Settings) (p : AlertPair) (draw : Nat), ∃ (addr : Addr) (f l : BitVec 4) (bytes : List Byte),
    (alertWrite g p draw).body = .memWrite addr 4 f l bytes ∧ bytes.length = 4 ∧
      wordOf bytes = p.word g.alert.data) ∧
  ∀ (s t : State) (w : Nat), exec .alertWriteForm s = .next t → t.apertureWord w = s.apertureWord w

/-- An event sets its flag; only an event that finds the flag clear can owe a write, and then it joins the end of the
send list when the enable is on, the address is not 0 and the pair is not yet listed. -/
def Sys2Proof.Parts.AlertRaised : Prop :=
  ∀ (b : Bridge) (g : Settings) (p : AlertPair),
    (b.raise g p).flagSet p = true ∧
    (∀ q : AlertPair, q ≠ p → (b.raise g p).flagSet q = b.flagSet q) ∧
    (b.flagSet p = true → b.raise g p = b) ∧
    (b.flagSet p = false → (b.raise g p).sendList
      = if p.enabled g = true ∧ g.alert.address ≠ 0 ∧ p ∉ b.sendList then b.sendList ++ [p]
        else b.sendList)

/-- Alerts are raised into the send list, and the list's head is written to the host. -/
def Obligations.AlertsRaisedAndWritten : Prop :=
  Parts.AlertWriteFormed ∧ Parts.AlertRaised

/-! ### Time and the deadline monitor -/

/-- The test of time across the wrap, the budgets of the codes, and milliseconds in the timebase. -/
def Obligations.TimeTest : Prop :=
  (∀ now t : Time,
    (reached now t = true ↔ (now.toNat + 2 ^ 32 - t.toNat) % 2 ^ 32 < 2 ^ 31)) ∧
  (∀ (now : Time) (d : Nat), 0 < d → d < 2 ^ 31 →
    reached now (now + BitVec.ofNat 32 d) = false ∧
      reached (now + BitVec.ofNat 32 d) (now + BitVec.ofNat 32 d) = true) ∧
  (∀ (now t : Time) (d : Nat), reached now t = true → (now - t).toNat + d < 2 ^ 31 →
    reached (now + BitVec.ofNat 32 d) t = true) ∧
  (∀ k : Nat, k ≤ 10 → (budget k).toNat = 50 * 2 ^ k) ∧
  ∀ n : Nat, n ≤ 2000 → (msec n).toNat = 1000 * n

/-- The expiry of an OPEN entry whose deadline has been reached, by Table 3-2. -/
def Obligations.DeadlineExpiryTaken : Prop :=
  ∀ (s : State) (i : BridgeTag) (account : SlotId) (d : Time) (r : EntryRecord),
    s.bridge.status i = .inUse account r → (s.bridge.ort.get i).outcome = .clean →
    r.phase = .opened d → reached s.bridge.now d = true →
    let g := s.settings
    let held : EntryRecord :=
      { r with phase := .stoodIn (s.bridge.now + msec g.part.holdLimit) true false }
    let stood := (s.bridge.putStatus i (.inUse account held)).dropNote i
    let listed := fun dest : ItemDest => { stood with
      workList := s.bridge.workList ++ [{ entry := i, dest := dest, begun := none }] }
    let counted := fun (b : Bridge) (n : SlotId) =>
      b.modFault n fun f => { f with expiries := min (f.expiries + 1) 65535 }
    let suspected := fun (b : Bridge) (n : SlotId) =>
      let count := min ((b.slot n).suspicion + 1) 15
      let c := b.modSlot n fun x => { x with suspicion := count, quietRef := s.bridge.now }
      if (g.timing n).threshold ≤ count then c.takeTrigger g n .suspicion else c
    let answers := fun b : Bridge =>
      exec (.deadlineExpiry i) s = .next (onBridge s (b.settle g))
    (∀ q n, r.origin = .upstream q → r.target = .slot n →
      answers (suspected
        (counted (listed (.host n (s.bridge.slot n).upQueue.length)) n) n)) ∧
    (∀ a q n, r.origin = .slot a q → r.target = .slot n →
      answers (suspected (counted (listed (.card a)) n) n)) ∧
    (∀ a q, r.origin = .slot a q → r.target = .upstream →
      answers (counted (listed (.card a)) a)) ∧
    (∀ k n, r.origin = .bridge (.script k) → r.target = .slot n →
      answers ((counted (s.bridge.freeEntry i) n).scriptExpired g i)) ∧
    ∀ p n x, r.origin = .bridge (.replay p) → r.target = .slot n →
      (s.bridge.slot n).stage = .restoring x → x.activity = .awaitAnswer i →
      answers ((counted (s.bridge.freeEntry i) n).replayExpired g n)

/-- The end of a hold releases the entry: release pending while its item is LISTED, FREE otherwise. -/
def Sys2Proof.Parts.HoldExpiryReleases : Prop :=
  ∀ (s : State) (i : BridgeTag) (account : SlotId) (hold : Time) (pending : Bool)
    (r : EntryRecord),
    s.bridge.status i = .inUse account r → (s.bridge.ort.get i).outcome = .clean →
    reached s.bridge.now hold = true →
    let answers := fun b : Bridge =>
      exec (.holdExpiry i) s = .next (onBridge s (b.settle s.settings))
    (r.phase = .stoodIn hold true pending →
      answers (s.bridge.putStatus i
        (.inUse account { r with phase := .stoodIn hold true true }))) ∧
    (r.phase = .stoodIn hold false pending → answers (s.bridge.freeEntry i)) ∧
    (r.phase = .orphaned hold → answers (s.bridge.freeEntry i))

/-- A corrected read is counted; the first since the log was cleared is announced, and a later one sets no flag and adds
nothing to the send list. -/
def Sys2Proof.Parts.CorrectionCounted : Prop :=
  ∀ (b : Bridge) (g : Settings),
    let counted : Bridge := { b with log := { b.log with
      corrected := min (b.log.corrected + 1) 65535
      announced := true } }
    (b.log.announced = false → b.noteCorrection g = counted.raise g (.part .eccCorrected)) ∧
    (b.log.announced = true → b.noteCorrection g = counted ∧
      (∀ p, (b.noteCorrection g).flagSet p = b.flagSet p) ∧
      (b.noteCorrection g).sendList = b.sendList)

/-- An uncorrectable read is reported: it latches its location when none is latched and counts as overflow when one is, and
the part's ECC_UNCORRECTABLE is raised. -/
def Sys2Proof.Parts.UncorrectableReported : Prop :=
  ∀ (b : Bridge) (g : Settings) (word : LatchedWord) (n : SlotId) (e : ReadEvent),
    let reported := fun log : ErrorLog => ({ b with log := log }).raise g (.part .eccUncorrectable)
    (b.log.latched = none → b.noteUncorrectable g word n e
      = reported { b.log with
          latched := some { word := word, slot := n, event := e, time := b.now } }) ∧
    (b.log.latched ≠ none → b.noteUncorrectable g word n e
      = reported { b.log with overflow := min (b.log.overflow + 1) 255 })

/-- A read of a record with bad bits: one is corrected, written back, and counted; two or more lose the entry, with its
account kept, its item and its pending note removed, and every other entry as it was. -/
def Sys2Proof.Parts.EntryRead : Prop :=
  ∀ (b : Bridge) (g : Settings) (i : BridgeTag) (account : SlotId) (r : EntryRecord)
    (e : ReadEvent), b.status i = .inUse account r →
    let w := b.ort.get i
    (w.flips + w.stuck = 0 → b.readEntry g i e = (b, some r)) ∧
    (w.flips + w.stuck = 1 →
      (b.readEntry g i e).2 = some r ∧
      (b.readEntry g i e).1
        = ({ b with ort := b.ort.set i { w with flips := 0 } }).noteCorrection g ∧
      (b.readEntry g i e).1.log.corrected = min (b.log.corrected + 1) 65535 ∧
      (b.readEntry g i e).1.log.announced = true ∧
      (b.log.announced = false →
        (b.readEntry g i e).1.flagSet (.part .eccCorrected) = true)) ∧
    (2 ≤ w.flips + w.stuck →
      (b.readEntry g i e).2 = none ∧
      (b.readEntry g i e).1 = ({ b with
        ort := b.ort.set i { w with status := .lost account }
        workList := b.workList.filter fun x => decide (x.entry ≠ i)
        notes := b.notes.filter fun m => decide (m.tag ≠ i) }).noteUncorrectable g (.ort i)
          account e ∧
      (b.readEntry g i e).1.status i = .lost account ∧
      (∀ j : BridgeTag, j ≠ i → (b.readEntry g i e).1.ort.get j = b.ort.get j) ∧
      (b.readEntry g i e).1.flagSet (.part .eccUncorrectable) = true ∧
      (b.log.latched = none → (b.readEntry g i e).1.log.latched
        = some { word := .ort i, slot := account, event := e, time := b.now }) ∧
      (b.log.latched ≠ none → (b.readEntry g i e).1.log.latched = b.log.latched ∧
        (b.readEntry g i e).1.log.overflow = min (b.log.overflow + 1) 255))

/-- A protected read of an entry, and what the error log and the alerts make of what it finds. -/
def Obligations.ProtectedEntryRead : Prop :=
  Parts.CorrectionCounted ∧ Parts.UncorrectableReported ∧ Parts.EntryRead

/-- While a slot's suspicion is above 0 and a quiet interval has passed since its reference, the counter falls by
one and the reference is set to now. -/
def Sys2Proof.Parts.SuspicionDecays : Prop :=
  ∀ (s : State) (n : SlotId), 0 < (s.bridge.slot n).suspicion →
    reached s.bridge.now
      ((s.bridge.slot n).quietRef + msec s.settings.part.quietInterval) = true →
    exec (.quietDecrement n) s = .next (onBridge s (s.bridge.modSlot n fun x =>
      { x with suspicion := x.suspicion - 1, quietRef := s.bridge.now }))

/-- A recorded wait that has reached the stall limit, of a head that still waits on a slot (log 16), is reported as
HEAD_STALL for the recorded slot, and its start is set to now. -/
def Sys2Proof.Parts.HeadStallReported : Prop :=
  ∀ (s : State) (st : Stall), s.bridge.stall = some st →
    (∃ m : SlotId, s.bridge.headWaitsOn s.settings = some m) →
    reached s.bridge.now (st.start + msec s.settings.part.stallLimit) = true →
    let again : Stall := { slot := st.slot, start := s.bridge.now }
    let b : Bridge := { s.bridge with stall := some again }
    exec .headStall s = .next (onBridge s
      ((b.takeTrigger s.settings st.slot .headStall).settle s.settings))

/-- The slot that the head of the Upstream Ingress Queue waits on: a request for a slot waits for room, for an entry or for
the direct item; a completion waits for room toward the card whose OPEN read it fits; nothing else waits on a slot. That a
malformed request waits on the slot of its route is deduced (log 15). -/
def Sys2Proof.Parts.HeadWaitsOnSlot : Prop :=
  ∀ (b : Bridge) (g : Settings),
    let full := fun n : SlotId => 32 ≤ (b.slot n).egress.length
    (b.upIngress = [] → b.headWaitsOn g = none) ∧
    (∀ (r : Request) (route : HostRoute) (rest : List HostQueued) (n : SlotId),
      b.upIngress = { txn := .request r, route := route } :: rest →
      (b.headWaitsOn g = some n ↔ (∃ answer, route = .slot n answer) ∧
        if ReqBody.fits r.body = true ∧ (b.slot n).stage = .admitted then
          full n ∨ (ReqBody.posted r.body = false ∧ b.offeredEntry g n = none)
        else ReqBody.posted r.body = false ∧ b.direct ≠ none)) ∧
    ∀ (c : Completion) (route : HostRoute) (rest : List HostQueued) (n : SlotId),
      b.upIngress = { txn := .completion c, route := route } :: rest →
      (b.headWaitsOn g = some n ↔ full n ∧ c.id = g.bridgeId ∧
        ∃ (i : BridgeTag) (account : SlotId) (r : EntryRecord) (d : Time) (q : Requester),
          c.tag = BitVec.ofNat 16 i.val ∧ b.status i = .inUse account r ∧
          (b.ort.get i).outcome ≠ .uncorrectable ∧ r.phase = .opened d ∧
          r.origin = .slot n q ∧ r.target = .upstream ∧ r.asked.fits c = true)

/-- The stall record: set with the present moment when the head has begun to wait on a slot, kept while it waits, and
absent while it waits on none. When it is looked at is the model's reading (log 16). -/
def Sys2Proof.Parts.StallNoted : Prop :=
  ∀ (b : Bridge) (g : Settings),
    (b.headWaitsOn g = none → b.noteStall g = { b with stall := none }) ∧
    ∀ n, b.headWaitsOn g = some n →
      b.noteStall g = { b with stall := some (b.stall.getD { slot := n, start := b.now }) }

/-- The examinations of the deadline monitor other than the deadline's, and the head-of-line stall. -/
def Obligations.MonitorTimers : Prop :=
  Parts.HoldExpiryReleases ∧ Parts.SuspicionDecays ∧ Parts.HeadStallReported ∧
    Parts.HeadWaitsOnSlot ∧ Parts.StallNoted

/-- An entry is available to an account below its quota, or while the shared pool is not all in use. -/
def Sys2Proof.Parts.EntryAvailable : Prop :=
  ∀ (b : Bridge) (g : Settings) (n : SlotId),
    let quota := fun m : SlotId => (g.policy m).quota
    let used := fun m : SlotId => ((List.finRange 256).filter fun i => match b.status i with
      | .free => false
      | .inUse a _ => decide (a = m)
      | .lost a => decide (a = m)).length
    let excess := fun m : SlotId => used m - quota m
    (b.available g n = true ↔ used n < quota n ∨
      excess 0 + excess 1 + excess 2 + excess 3 < 256 - (quota 0 + quota 1 + quota 2 + quota 3)) ∧
    (b.available g n = false → b.offeredEntry g n = none)

/-- Whenever an entry is available to an account, a FREE index exists, under the law of the accounts. -/
def Sys2Proof.Parts.FreeEntryOffered : Prop :=
  ∀ (s : State) (n : SlotId), PoolLaw s → s.bridge.available s.settings n = true →
    ∃ i : BridgeTag, s.bridge.offeredEntry s.settings n = some i ∧ s.bridge.status i = .free ∧
      ∀ j : BridgeTag, j < i → s.bridge.status j ≠ .free

/-- When an entry is available to an account, and that one is then FREE and offered. -/
def Obligations.AvailableEntryExists : Prop :=
  Parts.EntryAvailable ∧ Parts.FreeEntryOffered

/-! ### The sequencers -/

/-- Entry to RESETTING: the attempt counter rises by one, the slot's queues are emptied with their posted requests counted
as discarded, no item answers its card, the phase is chosen from PWREN and the escalation point, and the other slots
are as they were. -/
def Sys2Proof.Parts.EntryToResetting : Prop :=
  ∀ (b : Bridge) (g : Settings) (n : SlotId),
    let c := b.enterResetting g n
    let count := (b.slot n).attempts + 1
    (c.slot n).attempts = count ∧ (c.slot n).ingress = [] ∧ (c.slot n).egress = [] ∧
      (c.slot n).fault.discarded = min ((b.slot n).fault.discarded
        + (postedCount ((b.slot n).ingress.map CardQueued.txn)
          + postedCount ((b.slot n).egress.map EgressTxn.txn))) 65535 ∧
      (∀ x ∈ c.workList, x.toward n = false) ∧
      (c.direct = match b.direct with
        | some d => if d.reply = .card n then none else some d
        | none => none) ∧
      (if (b.slot n).pwren = true ∧ count < (g.policy n).escalation then
        (c.slot n).stage = .resetting .warmHold b.now ∧ (c.slot n).pwren = true
      else
        (c.slot n).stage = .resetting .offWait b.now ∧ (c.slot n).pwren = false) ∧
      ∀ m : SlotId, m ≠ n → c.slot m = b.slot m

/-- Entry to RESETTING releases the entries held for the slot, every record reading clean: ORPHANED to FREE, STOOD-IN with
its item LEFT to FREE, STOOD-IN with its item LISTED to release pending. The items toward the card are removed: an
entry whose item so leaves goes to FREE with its release pending, and else stays STOOD-IN with its item LEFT. Nothing
else of the ORT and the list changes. -/
def Sys2Proof.Parts.ResetReleasesEntries : Prop :=
  ∀ (b : Bridge) (g : Settings) (n : SlotId), (∀ i, (b.ort.get i).outcome = .clean) →
    let c := b.enterResetting g n
    let removed := fun i : BridgeTag => ∃ x ∈ b.workList, x.entry = i ∧ x.toward n = true
    c.workList = b.workList.filter (fun x => !(x.toward n)) ∧
    (∀ i, (b.status i).isInUse = false → c.status i = b.status i) ∧
    ∀ (i : BridgeTag) (account : SlotId) (r : EntryRecord), b.status i = .inUse account r →
      (∀ d, r.phase = .opened d → c.status i = b.status i) ∧
      (∀ hold, r.phase = .orphaned hold →
        (r.target = .slot n → c.status i = .free) ∧
        (r.target ≠ .slot n → c.status i = b.status i)) ∧
      ∀ hold listed pending, r.phase = .stoodIn hold listed pending →
        (r.target = .slot n → listed = false ∨ removed i → c.status i = .free) ∧
        (r.target = .slot n → listed = true → ¬ removed i →
          c.status i = .inUse account { r with phase := .stoodIn hold true true }) ∧
        (r.target ≠ .slot n → removed i → pending = true → c.status i = .free) ∧
        (r.target ≠ .slot n → removed i → pending = false →
          c.status i = .inUse account { r with phase := .stoodIn hold false false }) ∧
        (r.target ≠ .slot n → ¬ removed i → c.status i = b.status i)

/-- The fence act: FENCED, the FIFO emptied with its posted requests counted as discarded, the first reason latched,
the alert raised, and every readable OPEN entry toward the slot stood in or freed, and from it orphaned; the other slots
are as they were. -/
def Sys2Proof.Parts.FenceActOnSlotAndEntries : Prop :=
  ∀ (b : Bridge) (g : Settings) (n : SlotId) (t : Trigger),
    (b.slot n).stage = .admitted → (∀ i, (b.ort.get i).outcome = .clean) →
    let c := b.fenceAct g n t
    (c.slot n).stage = .fenced ∧ (c.slot n).egress = [] ∧
      (c.slot n).ingress = (b.slot n).ingress ∧ (c.slot n).upQueue = (b.slot n).upQueue ∧
      (c.slot n).fault.discarded
        = min ((b.slot n).fault.discarded
            + postedCount ((b.slot n).egress.map EgressTxn.txn)) 65535 ∧
      (c.slot n).fault.fenceReason = some ((b.slot n).fault.fenceReason.getD t) ∧
      c.flagSet (.slot n .fenced) = true ∧
      (∀ m : SlotId, m ≠ n → c.slot m = b.slot m) ∧
      ∀ (i : BridgeTag) (account : SlotId) (r : EntryRecord) (d : Time),
        b.status i = .inUse account r → r.phase = .opened d →
        let hold := b.now + msec g.part.holdLimit
        let stood : EntryStatus :=
          .inUse account { r with phase := .stoodIn hold true false }
        (r.target = .slot n → (∀ p, r.origin ≠ .bridge p) → c.status i = stood) ∧
        (r.target = .slot n → (∀ p, r.origin = .bridge p → c.status i = .free)) ∧
        (r.target ≠ .slot n → (∀ q, r.origin = .slot n q →
          c.status i = .inUse account { r with phase := .orphaned hold })) ∧
        (r.target ≠ .slot n → (∀ q, r.origin ≠ .slot n q) → c.status i = b.status i)

/-- The Stand-in Work List after the fence act: the items it held, and behind them one for each entry stood in together,
oldest first, entries of equal age in ascending index order; each answers the host behind what the slot's upstream
queue holds, or the origin card. -/
def Sys2Proof.Parts.FenceActListsItems : Prop :=
  ∀ (b : Bridge) (g : Settings) (n : SlotId) (t : Trigger),
    (b.slot n).stage = .admitted → (∀ i, (b.ort.get i).outcome = .clean) →
    let c := b.fenceAct g n t
    let age := fun r : EntryRecord => (b.now - r.allocatedAt).toNat
    let dest := fun r : EntryRecord => match r.origin with
      | .slot a _ => ItemDest.card a
      | _ => .host n (b.slot n).upQueue.length
    ∃ fresh : List (BridgeTag × EntryRecord),
      (∀ i r, (i, r) ∈ fresh ↔ (∃ account, b.status i = .inUse account r) ∧
        (∃ d, r.phase = .opened d) ∧ r.target = .slot n ∧ ∀ p, r.origin ≠ .bridge p) ∧
      (fresh.Pairwise fun x y =>
        age y.2 < age x.2 ∨ (age x.2 = age y.2 ∧ x.1 < y.1)) ∧
      c.workList = b.workList ++ fresh.map fun x =>
        { entry := x.1, dest := dest x.2, begun := none }

/-- The fence act: what it does to the slot, to the entries and to the Stand-in Work List. -/
def Obligations.FenceActTaken : Prop :=
  Parts.FenceActOnSlotAndEntries ∧ Parts.FenceActListsItems

/-- What a fence trigger other than PRESENCE_LOST and POWER_LOST does, by the slot's state: it fences an ADMITTED slot,
ends an attempt, or is counted alone. That SUSPICION, COMMANDED and VIOLATION end an attempt with no park reason as its
cause is the model's reading of a case that no run reaches (log 21). -/
def Sys2Proof.Parts.TriggerActsByState : Prop :=
  ∀ (b : Bridge) (g : Settings) (n : SlotId) (t : Trigger), t ≠ .presenceLost → t ≠ .powerLost →
    let cause : Option ParkReason := match t with
      | .linkLost => some .linkLost
      | .cardFatal => some .cardFatal
      | .completionFault => some .completionFault
      | .headStall => some .headStall
      | _ => none
    let counted := b.modFault n fun f => { f with fenceEvents := min (f.fenceEvents + 1) 65535 }
    match (b.slot n).stage with
    | .admitted =>
      b.takeTrigger g n t
        = if (g.policy n).autoRecover = true then
            (((counted.fenceAct g n t).modSlot n fun x =>
              { x with restore := true }).enterResetting g n)
          else counted.fenceAct g n t
    | .linking _ | .qualifying | .restoring _ =>
      b.takeTrigger g n t = counted.attemptFailure g n cause
    | _ => b.takeTrigger g n t = counted

/-- An attempt failure of a slot in LINKING, QUALIFYING or RESTORING: RESETTING with one attempt more below the
maximum attempts, else PARKED with the cause latched, the alert raised and PWREN by the park power. -/
def Sys2Proof.Parts.AttemptFailureTaken : Prop :=
  ∀ (b : Bridge) (g : Settings) (n : SlotId) (cause : ParkReason),
    ((b.slot n).stage = .qualifying ∨ (∃ x, (b.slot n).stage = .restoring x) ∨
      ∃ t, (b.slot n).stage = .linking t) →
    let c := b.attemptFailure g n (some cause)
    ((b.slot n).attempts < (g.policy n).maxAttempts →
      (∃ phase, (c.slot n).stage = .resetting phase b.now) ∧
        (c.slot n).attempts = (b.slot n).attempts + 1 ∧
        (c.slot n).restore = (b.slot n).restore ∧
        (c.slot n).fault.parkReason = (b.slot n).fault.parkReason) ∧
    ((g.policy n).maxAttempts ≤ (b.slot n).attempts →
      (c.slot n).stage = .parked ∧ (c.slot n).attempts = (b.slot n).attempts ∧
        (c.slot n).restore = (b.slot n).restore ∧
        (c.slot n).fault.parkReason = some ((b.slot n).fault.parkReason.getD cause) ∧
        c.flagSet (.slot n .parked) = true ∧
        (c.slot n).pwren
          = ((b.slot n).pwren && decide ((g.policy n).parkPower = .keep))) ∧
    ((b.slot n).stage = .qualifying → n ∉ c.qualQueue ∧ served c ≠ some n)

/-- Presence loss takes a slot to EMPTY and power-good loss parks it, whatever the park power; both count a fence event
and raise their alerts. -/
def Sys2Proof.Parts.LossesTaken : Prop :=
  ∀ (b : Bridge) (g : Settings) (n : SlotId),
    ((b.slot n).stage ≠ .empty →
      let c := b.presenceLoss g n
      (c.slot n).stage = .empty ∧ (c.slot n).pwren = false ∧ (c.slot n).watch = false ∧
        (c.slot n).attempts = 0 ∧ (c.slot n).restore = false ∧ (c.slot n).ingress = [] ∧
        (c.slot n).egress = [] ∧ c.flagSet (.slot n .presenceChange) = true ∧
        (c.slot n).fault.fenceEvents = min ((b.slot n).fault.fenceEvents + 1) 65535 ∧
        ((b.slot n).stage = .admitted → (c.slot n).fault.fenceReason
          = some ((b.slot n).fault.fenceReason.getD .presenceLost))) ∧
    ((b.slot n).stage ≠ .empty → (b.slot n).stage ≠ .off →
      let c := b.powerLoss g n
      (c.slot n).stage = .parked ∧ (c.slot n).pwren = false ∧ (c.slot n).watch = false ∧
        (c.slot n).attempts = (b.slot n).attempts ∧
        c.flagSet (.slot n .powerFault) = true ∧
        (c.slot n).fault.fenceEvents = min ((b.slot n).fault.fenceEvents + 1) 65535 ∧
        ((b.slot n).stage ≠ .parked → (c.slot n).fault.parkReason
          = some ((b.slot n).fault.parkReason.getD .powerLost)) ∧
        ((b.slot n).stage = .parked →
          (c.slot n).fault.parkReason = (b.slot n).fault.parkReason))

/-- Fence triggers by the slot's state, and the losses of presence and of power-good. -/
def Obligations.TriggersAndLosses : Prop :=
  Parts.TriggerActsByState ∧ Parts.LossesTaken

/-- Entry to ADMITTED clears the attempts and the suspicion, counts a recovery, raises the alert and keeps the restore
flag. -/
def Sys2Proof.Parts.EntryToAdmitted : Prop :=
  ∀ (b : Bridge) (g : Settings) (n : SlotId),
    let c := b.enterAdmitted g n
    (c.slot n).stage = .admitted ∧ (c.slot n).attempts = 0 ∧ (c.slot n).suspicion = 0 ∧
      (c.slot n).quietRef = b.now ∧ (c.slot n).restore = (b.slot n).restore ∧
      (c.slot n).fault
        = { (b.slot n).fault with recoveries := min ((b.slot n).fault.recoveries + 1) 65535 } ∧
      c.flagSet (.slot n .admitted) = true ∧
      ∀ m : SlotId, m ≠ n → c.slot m = b.slot m

/-- Entry to PARKED: the first park reason latched, the port queues emptied, the alert raised, and PWREN kept or turned
off with the watch of power-good. -/
def Sys2Proof.Parts.EntryToParked : Prop :=
  ∀ (b : Bridge) (g : Settings) (n : SlotId) (reason : Option ParkReason) (keep : Bool),
    let old := b.slot n
    let c := b.enterParked g n reason keep
    let new := c.slot n
    new.stage = .parked ∧ new.attempts = old.attempts ∧ new.restore = old.restore ∧
      new.ingress = [] ∧ new.egress = [] ∧ new.upQueue = old.upQueue ∧
      new.pwren = (keep && old.pwren) ∧ new.watch = (keep && old.watch) ∧
      (∀ first, old.fault.parkReason = some first → new.fault.parkReason = some first) ∧
      (old.fault.parkReason = none → new.fault.parkReason = reason) ∧
      c.flagSet (.slot n .parked) = true ∧ ∀ m : SlotId, m ≠ n → c.slot m = b.slot m

/-- The actions on entry to a state with SRST asserted: of the slot, the ingress queue and the FIFO are emptied with their
posted requests counted as discarded, and nothing else changes; no item answers its card any more. -/
def Sys2Proof.Parts.EntryUnderReset : Prop :=
  ∀ (b : Bridge) (g : Settings) (n : SlotId),
    let c := b.srstEntry g n
    let held := postedCount ((b.slot n).ingress.map CardQueued.txn)
      + postedCount ((b.slot n).egress.map EgressTxn.txn)
    c.slot n = { b.slot n with
      ingress := []
      egress := []
      fault := { (b.slot n).fault with
        discarded := min ((b.slot n).fault.discarded + held) 65535 } } ∧
    (∀ m : SlotId, m ≠ n → c.slot m = b.slot m) ∧
    (∀ x ∈ c.workList, x.toward n = false) ∧
    c.direct = match b.direct with
      | some d => if d.reply = .card n then none else some d
      | none => none

/-- Leaving QUALIFYING or RESTORING, every record reading clean: the slot's OPEN entries of origin BRIDGE go to FREE and
every other entry is as it was. Leaving QUALIFYING, the slot also leaves the Qualification Queue and the engine abandons
its run; leaving POWERING, it leaves the Power Queue. -/
def Sys2Proof.Parts.LeavingTellsBlocks : Prop :=
  ∀ (b : Bridge) (g : Settings) (n : SlotId),
    let c := b.leave g n
    (((b.slot n).stage = .qualifying ∨ ∃ r, (b.slot n).stage = .restoring r) →
      (∀ i, (b.ort.get i).outcome = .clean) →
      (∀ i account r d p, b.status i = .inUse account r → r.phase = .opened d →
        r.origin = .bridge p → r.target = .slot n → c.status i = .free) ∧
      ∀ i, (∀ account r d p, b.status i = .inUse account r → r.phase = .opened d →
        r.origin = .bridge p → r.target ≠ .slot n) → c.status i = b.status i) ∧
    ((b.slot n).stage = .qualifying →
      c.qualQueue = b.qualQueue.filter (fun m => decide (m ≠ n)) ∧
      (∀ r, b.run = some r → c.run = if r.slot = n then none else some r)) ∧
    (∀ p, (b.slot n).stage = .powering p →
      c = { b with powerQueue := b.powerQueue.filter fun m => decide (m ≠ n) })

/-- An attempt from its start in RESETTING to its failure or to ADMITTED. -/
def Obligations.AttemptStartsAndEnds : Prop :=
  Parts.EntryUnderReset ∧ Parts.LeavingTellsBlocks ∧ Parts.EntryToResetting ∧ Parts.ResetReleasesEntries ∧
    Parts.AttemptFailureTaken ∧ Parts.EntryToAdmitted ∧ Parts.EntryToParked

/-! ### Lines, power and timed ends -/

/-- A pin that changes level is looked at: a difference from the filtered level starts a change unless one is under
way, and no difference removes the change start. -/
def Sys2Proof.Parts.PinChangeSensed : Prop :=
  ∀ (s : State) (n : SlotId) (line : InputLine) (high : Bool),
    let old := s.bridge.slot n
    let level := high == activeHigh (s.settings.slot n).inversions line
    let start := if level = old.filtered.get line then none
      else some ((old.changeStart.get line).getD s.bridge.now)
    exec (.inputPinChange n line high) s = .next (onBridge s (s.bridge.modSlot n fun x =>
      { x with
        pins := x.pins.set line high
        changeStart := x.changeStart.set line start }))

/-- The moment of a filtered change: the change start stands, the filter time of the line has been reached, and the
unfiltered level is this one and differs from the filtered level. -/
def Sys2Proof.Parts.FilteredChangeDue : Prop :=
  ∀ (b : Bridge) (g : Settings) (n : SlotId) (line : InputLine) (level : Bool),
    b.lineDue g n line = some level ↔
      ∃ start, (b.slot n).changeStart.get line = some start ∧
        reached b.now (start + msec (if line = .pwrgd then 1 else 20)) = true ∧
        (((b.slot n).pins.get line) == activeHigh (g.slot n).inversions line) = level ∧
        (b.slot n).filtered.get line ≠ level

/-- The filtered changes of PRSNT and ATTN: presence moves EMPTY to OFF, presence loss moves any other state to EMPTY, a
press raises ATTENTION and a release raises nothing. -/
def Sys2Proof.Parts.PresenceAndAttention : Prop :=
  ∀ (s : State) (n : SlotId),
    let g := s.settings
    let taken := fun (line : InputLine) (level : Bool) => s.bridge.modSlot n fun x =>
      { x with
        filtered := x.filtered.set line level
        changeStart := x.changeStart.set line none }
    (s.bridge.lineDue g n .prsnt = some true → (s.bridge.slot n).stage = .empty →
      exec (.debouncedPresence n) s = .next (onBridge s
        (((((taken .prsnt true).setStage n .off).srstEntry g n).raise g
          (.slot n .presenceChange)).settle g))) ∧
    (s.bridge.lineDue g n .prsnt = some true → (s.bridge.slot n).stage ≠ .empty →
      exec (.debouncedPresence n) s = .next (onBridge s ((taken .prsnt true).settle g))) ∧
    (s.bridge.lineDue g n .prsnt = some false →
      exec (.debouncedPresenceLoss n) s = .next (onBridge s
        (((taken .prsnt false).presenceLoss g n).settle g))) ∧
    (s.bridge.lineDue g n .attn = some true →
      exec (.attentionPress n) s = .next (onBridge s
        ((taken .attn true).raise g (.slot n .attention)))) ∧
    (s.bridge.lineDue g n .attn = some false →
      exec (.attentionRelease n) s = .next (onBridge s (taken .attn false)))

/-- The states in which SRST is asserted, by Table 4-2. -/
def Sys2Proof.Parts.ResetLineByState : Prop :=
  ∀ (b : Bridge) (n : SlotId),
    b.outputLevel n .srst = (b.slot n).stage.srst ∧
    (b.slot n).stage.srst = match (b.slot n).stage with
      | .empty | .off | .powering _ | .resetting _ _ | .parked => true
      | .linking _ | .qualifying | .restoring _ | .admitted | .fenced => false

/-- The pin of a line, `true` for high, stands at the line's active level when the line is asserted: the default level of
Table 5-1, or the other when the line's inversion is set. The inputs are read through it, the outputs driven by it. -/
def Sys2Proof.Parts.PolarityOfLines : Prop :=
  ∀ (b : Bridge) (g : Settings) (n : SlotId),
    let x := b.slot n
    let inverted := (g.slot n).inversions
    (b.outputPin g n .pwren = if inverted.pwren then !x.pwren else x.pwren) ∧
    (b.outputPin g n .srst = if inverted.srst then x.stage.srst else !x.stage.srst) ∧
    (b.outputPin g n .ind = if inverted.ind then !x.ind.lit else x.ind.lit) ∧
    (b.unfiltered g n .prsnt = if inverted.prsnt then x.pins.prsnt else !x.pins.prsnt) ∧
    (b.unfiltered g n .pwrgd = if inverted.pwrgd then !x.pins.pwrgd else x.pins.pwrgd) ∧
    (b.unfiltered g n .attn = if inverted.attn then x.pins.attn else !x.pins.attn) ∧
    ∀ line, b.unfiltered g n line = (x.pins.get line == activeHigh inverted line)

/-- An input pin from its change of level to the filtered change and what it does, the polarity of the six lines, and the
states in which SRST is asserted. -/
def Obligations.InputLinesFiltered : Prop :=
  Parts.PinChangeSensed ∧ Parts.FilteredChangeDue ∧ Parts.PresenceAndAttention ∧
    Parts.PolarityOfLines ∧ Parts.ResetLineByState

/-- The filtered changes of PWRGD: a rise in AWAIT-PWRGD begins the hold and the watch, a fall under the watch is
power-good loss, and any other change is not reported. The last holds for the changes that the spec names and for
those no run reaches (log 20). -/
def Obligations.PowerGoodChanges : Prop :=
  ∀ (s : State) (n : SlotId),
    let g := s.settings
    let taken := fun level : Bool => s.bridge.modSlot n fun x =>
      { x with
        filtered := x.filtered.set .pwrgd level
        changeStart := x.changeStart.set .pwrgd none }
    (∀ grant, s.bridge.lineDue g n .pwrgd = some true →
      (s.bridge.slot n).stage = .powering (.awaitPwrgd grant) →
      exec (.powerGoodTaken n) s = .next (onBridge s
        (((taken true).setStage n (.powering (.hold grant s.bridge.now))).modSlot n fun x =>
          { x with watch := true }))) ∧
    (s.bridge.lineDue g n .pwrgd = some false → (s.bridge.slot n).watch = true →
      exec (.powerGoodLoss n) s = .next (onBridge s
        (((taken false).powerLoss g n).settle g))) ∧
    (s.bridge.lineDue g n .pwrgd = some true →
      (∀ grant, (s.bridge.slot n).stage ≠ .powering (.awaitPwrgd grant)) →
      exec (.unwatchedPwrgdChange n) s = .next (onBridge s (taken true))) ∧
    (s.bridge.lineDue g n .pwrgd = some false → (s.bridge.slot n).watch = false →
      exec (.unwatchedPwrgdChange n) s = .next (onBridge s (taken false)))

/-- The head of the Power Queue is granted while fewer than C remembered grants lie within the window; its PWREN is
asserted, the grant is remembered, and the phase is AWAIT-PWRGD, or HOLD where filtered PWRGD already stands. -/
def Sys2Proof.Parts.PowerGranted : Prop :=
  ∀ (s : State) (n : SlotId) (rest : List SlotId), s.bridge.powerQueue = n :: rest →
    let within := (s.bridge.inrush.filter fun t =>
      decide ((s.bridge.now - t).toNat < 1000 * s.settings.part.inrushWindow)).length
    let kept := if s.bridge.inrush.length < 4 then s.bridge.inrush else s.bridge.inrush.tail
    let b : Bridge := { s.bridge with powerQueue := rest, inrush := kept ++ [s.bridge.now] }
    let on := b.modSlot n fun x => { x with pwren := true }
    (within < s.settings.part.inrushCount → (s.bridge.slot n).filtered.pwrgd = false →
      exec .powerGrant s
        = .next (onBridge s (on.setStage n (.powering (.awaitPwrgd s.bridge.now))))) ∧
    (within < s.settings.part.inrushCount → (s.bridge.slot n).filtered.pwrgd = true →
      exec .powerGrant s = .next (onBridge s
        ((on.setStage n (.powering (.hold s.bridge.now s.bridge.now))).modSlot n fun x =>
          { x with watch := true }))) ∧
    (s.settings.part.inrushCount ≤ within → exec .powerGrant s = .next s)

/-- The inrush history drops the times that are 1000 ms old. -/
def Sys2Proof.Parts.InrushHistoryDrops : Prop :=
  ∀ s : State, exec .inrushHistoryExpiry s = .next (onBridge s { s.bridge with
    inrush := s.bridge.inrush.filter fun t =>
      !(reached s.bridge.now (t + BitVec.ofNat 32 1000000)) })

/-- Power grants under the inrush limit, and the history they are counted in. -/
def Obligations.PowerGrants : Prop :=
  Parts.PowerGranted ∧ Parts.InrushHistoryDrops

/-- The timed ends of POWERING, RESETTING and LINKING, each when its time has been reached. That the power-good timeout
raises PARKED before POWER_FAULT, and so the order of the two in the alert send list, is the model's choice: the spec
does not order two alerts of one act (log 14). -/
def Sys2Proof.Parts.TimedEnds : Prop :=
  ∀ (s : State) (n : SlotId) (t start : Time),
    let g := s.settings
    let now := s.bridge.now
    let stage := (s.bridge.slot n).stage
    (stage = .powering (.hold t start) →
      reached now (start + msec (g.timing n).resetHold) = true →
      exec (.sequenceComplete n) s
        = .next (onBridge s (s.bridge.setStage n (.linking now)))) ∧
    (stage = .powering (.awaitPwrgd start) →
      reached now (start + msec (g.timing n).powerGoodTimeout) = true →
      exec (.powerGoodTimeout n) s = .next (onBridge s
        (((({ s.bridge with
              powerQueue := s.bridge.powerQueue.filter fun m => decide (m ≠ n) }).enterParked g n
            (some .powerFault) false).raise g (.slot n .powerFault)).settle g))) ∧
    (stage = .resetting .warmHold start →
      reached now (start + msec (g.timing n).resetHold) = true →
      exec (.warmHoldEnd n) s = .next (onBridge s (s.bridge.setStage n (.linking now)))) ∧
    (stage = .resetting .offWait start →
      reached now (start + msec (g.timing n).offTime) = true →
      exec (.offTimeEnd n) s = .next (onBridge s ((s.bridge.enterPowering g n).settle g))) ∧
    (stage = .linking start → reached now (start + msec (g.timing n).linkTimeout) = true →
      exec (.linkTimeout n) s = .next (onBridge s
        ((s.bridge.attemptFailure g n (some .linkTimeout)).settle g)))

/-- A half of a blink that has ended gives way to the next, which starts where it ended (log 24); the halves are 500 ms,
or 125 ms in PARKED. -/
def Sys2Proof.Parts.BlinkToggles : Prop :=
  ∀ (s : State) (n : SlotId) (half : Nat) (start : Time),
    (s.bridge.slot n).stage.indPattern = .blink half →
    (s.bridge.slot n).ind.since = some start →
    reached s.bridge.now (start + msec half) = true →
    (half = 500 ∨ (half = 125 ∧ (s.bridge.slot n).stage = .parked)) ∧
    exec (.indBlinkToggle n) s = .next (onBridge s (s.bridge.modSlot n fun x =>
      { x with ind := { lit := !x.ind.lit, since := some (start + msec half) } }))

/-- What the indicator does when a slot changes its state: the pattern of Table 4-9 starts at once when it is another, a
blink with its asserted half, and runs on when it is the same. -/
def Sys2Proof.Parts.IndicatorFollowsState : Prop :=
  ∀ (b : Bridge) (n : SlotId) (stage : Stage),
    let pattern : Stage → IndPattern := fun x => match x with
      | .empty | .off => .dark
      | .admitted => .steady
      | .parked => .blink 125
      | _ => .blink 500
    let ind : Indicator := if pattern (b.slot n).stage = pattern stage then (b.slot n).ind
      else match pattern stage with
        | .dark => { lit := false, since := none }
        | .steady => { lit := true, since := none }
        | .blink _ => { lit := true, since := some b.now }
    b.setStage n stage = b.modSlot n fun x => { x with stage := stage, ind := ind }

/-- The timed ends of the sequencer's phases, and the halves of a blink. The order PARKED before POWER_FAULT (log 14) and the
start of the next half (log 24) are the model's. -/
def Obligations.TimedEndsAndBlink : Prop :=
  Parts.TimedEnds ∧ Parts.BlinkToggles ∧ Parts.IndicatorFollowsState

/-! ### Links, the qualification engine and the replay -/

/-- A LINK-UP moves a slot in LINKING to QUALIFYING and the end of the Qualification Queue, and elsewhere sets the
status alone; a LINK-DOWN is reported as LINK_LOST by Table 6-1. -/
def Sys2Proof.Parts.LinkEvents : Prop :=
  ∀ (s : State) (n : SlotId),
    let g := s.settings
    let up := s.bridge.modSlot n fun x => { x with linkUp := true }
    let down := s.bridge.modSlot n fun x => { x with linkUp := false }
    let joined := up.setStage n .qualifying
    let reported := (s.bridge.slot n).stage = .admitted ∨ (s.bridge.slot n).stage = .qualifying ∨
      (∃ x, (s.bridge.slot n).stage = .restoring x) ∨ (s.bridge.slot n).stage = .fenced
    ((∃ t, (s.bridge.slot n).stage = .linking t) →
      exec (.linkUp n) s = .next (onBridge s
        ({ joined with qualQueue := s.bridge.qualQueue ++ [n] }.settle g))) ∧
    ((∀ t, (s.bridge.slot n).stage ≠ .linking t) →
      exec (.linkUp n) s = .next (onBridge s (up.settle g))) ∧
    (reported →
      exec (.linkDown n) s = .next (onBridge s ((down.takeTrigger g n .linkLost).settle g))) ∧
    (¬ reported → exec (.linkDown n) s = .next (onBridge s (down.settle g)))

/-- What the end of a step settles, which many statements close with: a sender that awaits a tag whose entry is LOST is
told that its request expired, and the idle engine takes the head of its queue, copies the stored script and begins
step 0; a script of length 0 passes at once. With none of these due the bridge is as it was. The moment is the
model's reading (log 6), and so is the order: the engine is told first, then the replays in ascending slot order, and
then the idle engine takes its head (log 33). That a script of length 0 passes with no search of the ORT, as its slot
leaves QUALIFYING, is the model's choice, which R78 leaves open (log 22). -/
def Sys2Proof.Parts.EndOfStepSettled : Prop :=
  ∀ (b : Bridge) (g : Settings),
    let lost := fun i : BridgeTag => ∃ account, b.status i = .lost account
    let engineLost := fun (r : Run) =>
      b.run = some r ∧ ∃ i, r.activity = .awaitAnswer i ∧ lost i
    let replayLost := fun (n : SlotId) (r : Replay) =>
      (b.slot n).stage = .restoring r ∧ ∃ i, r.activity = .awaitAnswer i ∧ lost i
    (∀ r, engineLost r → b.settle g = (b.stepFail g r .expired none).settle g) ∧
    ((∀ r, ¬ engineLost r) →
      (∀ n r, replayLost n r → (∀ m x, m < n → ¬ replayLost m x) →
        let key := r.copy.map fun w => (w.function, w.offset)
        b.settle g = ((b.modSlot n fun x =>
          { x with replayResult := some (.failed .expired key r.sent) }).attemptFailure g n
            (some .restoreFail)).settle g) ∧
      ((∀ n r, ¬ replayLost n r) →
        (b.run ≠ none ∨ b.qualQueue = [] → b.settle g = b) ∧
        ∀ n rest, b.run = none → b.qualQueue = n :: rest →
          let script := (g.slot n).script
          (0 < script.length →
            let first := script.steps.get 0
            let run : Run :=
              { slot := n
                script := script
                index := 0
                half := match first with
                  | .echo _ _ _ _ => some .write
                  | _ => none
                activity := match first with
                  | .wait d => .pause (b.now + msec d)
                  | _ => .issueWait b.now
                retryCount := 0 }
            b.settle g = { b with qualQueue := rest, run := some run }) ∧
          (script.length = 0 → (b.slot n).stage = .qualifying →
            let passed := { b with qualQueue := rest }.modSlot n fun x =>
              { x with qualResult := some .pass }
            b.settle g
              = if (b.slot n).restore = true ∧ (b.slot n).shadow ≠ [] then
                  (passed.enterRestoring g n).settle g
                else (passed.enterAdmitted g n).settle g)))

/-- LINK-UP and LINK-DOWN, and what the end of a step settles. The moment and the order of what is settled (log 6, log 33),
and that a pass makes no search of the ORT (log 22), are the model's choices. -/
def Obligations.LinkEventsTaken : Prop :=
  Parts.LinkEvents ∧ Parts.EndOfStepSettled

/-- The engine sends the request of its step when an entry and room are there at one moment: a configuration request
to device 0 on the slot's first bus, under a new entry of origin BRIDGE. -/
def Sys2Proof.Parts.ScriptRequestSent : Prop :=
  ∀ (s : State) (r : Run) (ready : Time) (i : BridgeTag),
    s.bridge.run = some r → r.activity = .issueWait ready →
    s.bridge.offeredEntry s.settings r.slot = some i →
    (s.bridge.slot r.slot).egress.length < 32 →
    let range := (s.settings.slot r.slot).busRange
    let bus := if range.valid then range.first else 0
    let target := fun (f : BitVec 3) (o : BitVec 12) =>
      ({ bus := bus, device := 0, function := f, offset := o } : CfgTarget)
    let sent := fun (asked : Asked) (body : ReqBody) =>
      let entry : EntryRecord :=
        { phase := .opened (s.bridge.now + s.settings.slotBudget r.slot)
          origin := .bridge (.script r.index)
          target := .slot r.slot
          asked := asked
          allocatedAt := s.bridge.now
          answer := none }
      let request : Request :=
        { id := s.settings.bridgeId, tag := BitVec.ofNat 16 i.val, body := body }
      { (s.bridge.putStatus i (.inUse r.slot entry)).pushEgress r.slot .bridgeRequest
          (.request request) with run := some { r with activity := .awaitAnswer i } }
    (∀ f o mask value compare, r.step? = some (.readExpect f o mask value compare) →
      exec .scriptRequestSend s = .next (onBridge s
        (sent (.cfgRead (target f o) 0xF) (.cfgRead (target f o) 4 0xF)))) ∧
    (∀ f o be value, r.step? = some (.write f o be value) →
      exec .scriptRequestSend s = .next (onBridge s
        (sent (.cfgWrite (target f o) be)
          (.cfgWrite (target f o) 4 be (bytesOf (value &&& enableMask be)))))) ∧
    (∀ f o mask pattern, r.step? = some (.echo f o mask pattern) → r.half = some .write →
      exec .scriptRequestSend s = .next (onBridge s
        (sent (.cfgWrite (target f o) 0xF)
          (.cfgWrite (target f o) 4 0xF (bytesOf pattern))))) ∧
    ∀ f o mask pattern, r.step? = some (.echo f o mask pattern) → r.half = some .read →
      exec .scriptRequestSend s = .next (onBridge s
        (sent (.cfgRead (target f o) 0xF) (.cfgRead (target f o) 4 0xF)))

/-- The timed moves of the engine: a request not sent within one budget fails its step EXPIRED, a retry interval that
has ended makes the request ready again, and a WAIT step that has ended passes. -/
def Sys2Proof.Parts.ScriptTimers : Prop :=
  ∀ (s : State) (r : Run) (t : Time), s.bridge.run = some r →
    (r.activity = .issueWait t →
      reached s.bridge.now (t + s.settings.slotBudget r.slot) = true →
      exec .scriptIssueTimeout s = .next (onBridge s
        ((s.bridge.stepFail s.settings r .expired none).settle s.settings))) ∧
    (r.activity = .retryWait t → reached s.bridge.now t = true →
      exec .scriptRetryResume s = .next (onBridge s { s.bridge with
        run := some { r with activity := .issueWait s.bridge.now } })) ∧
    (r.activity = .pause t → reached s.bridge.now t = true →
      exec .scriptWaitEnd s = .next (onBridge s
        ((s.bridge.beginStep s.settings r.slot r.script (r.index + 1)).settle s.settings)))

/-- How a step is judged, begun and ended: the compare of a read, the halves of an ECHO, the retry of a NOT-READY, and
the result record of a run. -/
def Sys2Proof.Parts.ScriptStepsJudged : Prop :=
  ∀ (b : Bridge) (g : Settings) (r : Run) (tag : BridgeTag) (data : List Byte),
    b.run = some r → r.activity = .awaitAnswer tag →
    let word := wordOf data
    let later := { r with activity := .retryWait (b.now + msec r.script.retryInterval), retryCount := r.retryCount + 1 }
    let passes := b.beginStep g r.slot r.script (r.index + 1)
    (∀ f o mask value compare, r.step? = some (.readExpect f o mask value compare) →
      b.scriptAnswer g tag .success data
        = if (compare = .equal) = (word &&& mask = value &&& mask) then passes
          else b.stepFail g r .mismatch (some word)) ∧
    (∀ f o be value, r.step? = some (.write f o be value) →
      b.scriptAnswer g tag .success data = passes) ∧
    (∀ f o mask pattern, r.step? = some (.echo f o mask pattern) → r.half = some .write →
      let again := { r with half := some .read, activity := .issueWait b.now, retryCount := 0 }
      b.scriptAnswer g tag .success data = { b with run := some again }) ∧
    (∀ f o mask pattern, r.step? = some (.echo f o mask pattern) → r.half = some .read →
      b.scriptAnswer g tag .success data
        = if word &&& mask = pattern &&& mask then passes
          else b.stepFail g r .mismatch (some word)) ∧
    b.scriptAnswer g tag .aborted data = b.stepFail g r .aborted none ∧
    b.scriptAnswer g tag .unsupported data = b.stepFail g r .unsupported none ∧
    b.scriptAnswer g tag .notReady data
      = (if r.retryCount < r.script.retryLimit then
          { b with run := some later }
        else b.stepFail g r .retriesExhausted none) ∧
    (b.stepFail g r .expired none).run = none ∧
    ((b.stepFail g r .expired none).slot r.slot).qualResult
      = some (.fail r.index .expired none) ∧
    (r.script.length ≤ r.index + 1 →
      passes.run = none ∧ (passes.slot r.slot).qualResult = some .pass)

/-- How an answer to a replay's write is judged: SUCCESS goes on to the next record, the policy test first, or ends the
replay; NOT-READY is retried below the limit; any other answer fails it with the key due. That a replay that is done makes
no search of the ORT, as its slot leaves RESTORING, is the model's choice, which R78 leaves open (log 22). -/
def Sys2Proof.Parts.ReplayAnswersJudged : Prop :=
  ∀ (b : Bridge) (g : Settings) (n : SlotId) (tag : BridgeTag) (r : Replay),
    (b.slot n).stage = .restoring r → r.activity = .awaitAnswer tag →
    let ended := fun res : ReplayResult => b.modSlot n fun x => { x with replayResult := some res }
    let key := r.copy.map fun w => (w.function, w.offset)
    let fails := fun cause : ReplayCause =>
      (ended (.failed cause key r.sent)).attemptFailure g n (some .restoreFail)
    let waits := fun q : Replay => b.modSlot n fun x => { x with stage := .restoring q }
    let barred := (b.slot n).incomplete = true ∧ (g.policy n).shadowPolicy = .fail
    b.replayAnswer g n tag .aborted = fails .aborted ∧
    b.replayAnswer g n tag .unsupported = fails .unsupported ∧
    (r.retryLimit ≤ r.retryCount → b.replayAnswer g n tag .notReady = fails .retriesExhausted) ∧
    (r.retryCount < r.retryLimit → b.replayAnswer g n tag .notReady
      = waits { r with activity := .retryWait (b.now + msec r.retryInterval), retryCount := r.retryCount + 1 }) ∧
    (barred → b.replayAnswer g n tag .success
      = (ended (.failed .incomplete none r.sent)).attemptFailure g n (some .shadowIncomplete)) ∧
    (¬ barred → (b.slot n).shadow.length ≤ r.cursor →
      b.replayAnswer g n tag .success = (ended (.done r.sent)).enterAdmitted g n) ∧
    (¬ barred → r.cursor < (b.slot n).shadow.length → b.replayAnswer g n tag .success
      = waits { r with activity := .issueWait b.now, retryCount := 0 })

/-- A step begins in ISSUE-WAIT from now, a WAIT step in PAUSE until its duration has passed, an ECHO step with its write
half, and every one with a retry count of 0. After the last step the run passes: PASS is the result, the engine is idle,
and the slot goes to RESTORING when its restore flag is set and its shadow holds a record, else to ADMITTED. That a run
that passes makes no search of the ORT, as its slot leaves QUALIFYING, is the model's choice, which R78 leaves open
(log 22). -/
def Sys2Proof.Parts.StepBegun : Prop :=
  ∀ (b : Bridge) (g : Settings) (n : SlotId) (script : Script) (index : Nat),
    let begun := b.beginStep g n script index
    (∀ k : Fin 12, index = k.val → index < script.length →
      let step := script.steps.get k
      let run : Run :=
        { slot := n
          script := script
          index := index
          half := match step with
            | .echo _ _ _ _ => some .write
            | _ => none
          activity := match step with
            | .wait d => .pause (b.now + msec d)
            | _ => .issueWait b.now
          retryCount := 0 }
      begun = { b with run := some run }) ∧
    (script.length ≤ index → (b.slot n).stage = .qualifying →
      let passed := { b with run := none }.modSlot n fun x => { x with qualResult := some .pass }
      begun = if (b.slot n).restore = true ∧ (b.slot n).shadow ≠ [] then passed.enterRestoring g n
        else passed.enterAdmitted g n)

/-- A step that fails leaves the engine idle with FAIL as the slot's result, and is the attempt failure QUALIFY_FAIL of a
slot in QUALIFYING. -/
def Sys2Proof.Parts.StepFailed : Prop :=
  ∀ (b : Bridge) (g : Settings) (r : Run) (cause : StepCause) (observed : Option Word),
    (b.slot r.slot).stage = .qualifying →
    b.stepFail g r cause observed
      = ({ b with run := none }.modSlot r.slot fun x =>
          { x with qualResult := some (.fail r.index cause observed) }).attemptFailure g r.slot
            (some .qualifyFail)

/-- A replay starts on entry to RESTORING with the cursor at 0, nothing sent and the retry rules of the stored script, and
makes the policy test: it ends with INCOMPLETE, or is done when the list holds no record, or waits to send the first. That
a replay that is done makes no search of the ORT, as its slot leaves RESTORING, is the model's choice, which R78 leaves
open (log 22). -/
def Sys2Proof.Parts.ReplayStarts : Prop :=
  ∀ (b : Bridge) (g : Settings) (n : SlotId),
    let started := b.setStage n (.restoring
      { cursor := 0
        activity := .issueWait b.now
        copy := none
        retryCount := 0
        retryLimit := (g.slot n).script.retryLimit
        retryInterval := (g.slot n).script.retryInterval
        sent := 0 })
    let ended := fun res : ReplayResult =>
      started.modSlot n fun x => { x with replayResult := some res }
    let barred := (b.slot n).incomplete = true ∧ (g.policy n).shadowPolicy = .fail
    (barred → b.enterRestoring g n
      = (ended (.failed .incomplete none 0)).attemptFailure g n (some .shadowIncomplete)) ∧
    (¬ barred → (b.slot n).shadow = [] →
      b.enterRestoring g n = (ended (.done 0)).enterAdmitted g n) ∧
    (¬ barred → (b.slot n).shadow ≠ [] → b.enterRestoring g n = started)

/-- A block that is told that its request expired: the step fails EXPIRED, the replay fails EXPIRED with the key of its
write copy. -/
def Sys2Proof.Parts.ExpiryTold : Prop :=
  ∀ (b : Bridge) (g : Settings) (tag : BridgeTag),
    (∀ r, b.run = some r → r.activity = .awaitAnswer tag →
      b.scriptExpired g tag = b.stepFail g r .expired none) ∧
    ∀ n r, (b.slot n).stage = .restoring r →
      let key := r.copy.map fun w => (w.function, w.offset)
      b.replayExpired g n = (b.modSlot n fun x =>
        { x with replayResult := some (.failed .expired key r.sent) }).attemptFailure g n
          (some .restoreFail)

/-- How the answers to the bridge's own requests are judged, a script step's and a replay's, and how steps, runs and
replays begin and end. That a run that passes and a replay that is done make no search of the ORT is the model's choice,
which R78 leaves open (log 22). -/
def Obligations.OwnAnswersJudged : Prop :=
  Parts.ScriptStepsJudged ∧ Parts.ReplayAnswersJudged ∧ Parts.StepBegun ∧ Parts.StepFailed ∧
    Parts.ReplayStarts ∧ Parts.ExpiryTold

/-- The replay sends the record at its cursor, read from protected storage, or on a retry its write copy, when an entry
and room are there at one moment. -/
def Sys2Proof.Parts.ReplayWriteSent : Prop :=
  ∀ (s : State) (n : SlotId) (r : Replay) (ready : Time) (i : BridgeTag),
    (s.bridge.slot n).stage = .restoring r → r.activity = .issueWait ready →
    s.bridge.offeredEntry s.settings n = some i → (s.bridge.slot n).egress.length < 32 →
    let range := (s.settings.slot n).busRange
    let sent := fun (cursor : Nat) (w : WriteCopy) =>
      let target : CfgTarget := { bus := if range.valid then range.first else 0, device := 0,
                                  function := w.function, offset := w.offset }
      let entry : EntryRecord :=
        { phase := .opened (s.bridge.now + s.settings.slotBudget n)
          origin := .bridge (.replay w.position)
          target := .slot n
          asked := .cfgWrite target w.union
          allocatedAt := s.bridge.now
          answer := none }
      let request : Request :=
        { id := s.settings.bridgeId, tag := BitVec.ofNat 16 i.val,
          body := .cfgWrite target 4 w.union (bytesOf w.value) }
      ((s.bridge.putStatus i (.inUse n entry)).pushEgress n .bridgeRequest
        (.request request)).modSlot n fun x => { x with stage := .restoring { r with
          cursor := cursor, activity := .awaitAnswer i, copy := some w,
          sent := min (r.sent + 1) 65535 } }
    (∀ x, r.retryCount = 0 → (s.bridge.slot n).shadow[r.cursor]? = some x →
      let c := s.bridge.shadowWords.get x.number
      c.flips + c.stuck = 0 →
      exec (.replayWriteSend n) s = .next (onBridge s
        ((sent (r.cursor + 1)
          { position := r.cursor, function := x.function, offset := x.offset, union := c.union,
            value := c.value }).settle s.settings))) ∧
    (∀ w, r.retryCount ≠ 0 → r.copy = some w →
      exec (.replayWriteSend n) s
        = .next (onBridge s ((sent r.cursor w).settle s.settings)))

/-- The bridge's own configuration requests: a script step's and a replay's. -/
def Obligations.ConfigRequestsSent : Prop :=
  Parts.ScriptRequestSent ∧ Parts.ReplayWriteSent

/-- The timed moves of a replay: a write not sent within one budget fails it EXPIRED with the key due, and a retry
interval that has ended makes the write ready again. -/
def Sys2Proof.Parts.ReplayTimers : Prop :=
  ∀ (s : State) (n : SlotId) (r : Replay) (t : Time),
    (s.bridge.slot n).stage = .restoring r →
    let key := if r.retryCount = 0 then
        ((s.bridge.slot n).shadow[r.cursor]?).map fun x => (x.function, x.offset)
      else r.copy.map fun w => (w.function, w.offset)
    (r.activity = .issueWait t →
      reached s.bridge.now (t + s.settings.slotBudget n) = true →
      exec (.replayIssueTimeout n) s = .next (onBridge s
        (((s.bridge.modSlot n fun x =>
          { x with replayResult := some (.failed .expired key r.sent) }).attemptFailure s.settings
            n (some .restoreFail)).settle s.settings))) ∧
    (r.activity = .retryWait t → reached s.bridge.now t = true →
      exec (.replayRetryResume n) s = .next (onBridge s (s.bridge.modSlot n fun x =>
        { x with stage := .restoring { r with activity := .issueWait s.bridge.now } })))

/-- The timed moves of the qualification engine and of a replay. -/
def Obligations.ScriptAndReplayTimers : Prop :=
  Parts.ScriptTimers ∧ Parts.ReplayTimers

/-- A write offered to a slot's shadow, by Table 7-3: refused, kept with nothing written, or kept in a new record for a key
that the list does not hold. -/
def Sys2Proof.Parts.ShadowKeepsNewKey : Prop :=
  ∀ (b : Bridge) (g : Settings) (n : SlotId) (bus : BitVec 8) (f : BitVec 3) (o : BitVec 12)
    (be : BitVec 4) (payload : Word),
    let range := (g.slot n).busRange
    let onBus := range.valid = true ∧ bus = range.first
    let offered := b.offerWrite g n bus f o be payload
    (¬ onBus → offered = (b, false)) ∧
    (onBus → be = 0 → offered = (b, true)) ∧
    (onBus → be ≠ 0 → g.excluded n o = true → offered = (b, false)) ∧
    (onBus → be ≠ 0 → g.excluded n o = false →
      (∀ x ∈ (b.slot n).shadow, ¬ (x.function = f ∧ x.offset = o)) →
      ((g.policy n).shadowLimit ≤ (b.slot n).shadow.length →
        offered = (b.modSlot n fun x => { x with incomplete := true }, false)) ∧
      (∀ k : RecordId, (b.slot n).shadow.length < (g.policy n).shadowLimit →
        b.lowestFreeRecord = some k →
        offered = ((b.writeShadow k be (payload &&& enableMask be)).modSlot n fun x =>
          { x with shadow := x.shadow ++ [{ number := k, function := f, offset := o }] },
          true)))

/-- A kept write for a key that the list holds. The record is read: clean, or corrected and counted, it takes the enabled
bytes; a record that an active replay has taken moves to the end of the list and the cursor falls by one, and any
other keeps its place. An uncorrectable record is removed with INCOMPLETE set and the error reported, and the write
makes a new one. -/
def Sys2Proof.Parts.ShadowMergesHeldKey : Prop :=
  ∀ (b : Bridge) (g : Settings) (n : SlotId) (bus : BitVec 8) (be : BitVec 4) (payload : Word)
    (pre post : List ShadowKey) (x : ShadowKey),
    let range := (g.slot n).busRange
    range.valid = true → bus = range.first → be ≠ 0 → g.excluded n x.offset = false →
    (b.slot n).shadow = pre ++ x :: post →
    (∀ y ∈ pre, ¬ (y.function = x.function ∧ y.offset = x.offset)) →
    let offered := b.offerWrite g n bus x.function x.offset be payload
    let w := b.shadowWords.get x.number
    let read := if w.flips + w.stuck = 0 then b
      else (b.writeShadow x.number w.union w.value).noteCorrection g
    let merged := read.writeShadow x.number (w.union ||| be)
      ((w.value &&& ~~~ enableMask be) ||| (payload &&& enableMask be))
    (w.flips + w.stuck ≤ 1 →
      ((∀ r, (b.slot n).stage = .restoring r → r.cursor ≤ pre.length) →
        offered = (merged, true)) ∧
      ∀ r, (b.slot n).stage = .restoring r → pre.length < r.cursor →
        offered = (merged.modSlot n fun y =>
          { y with
            shadow := pre ++ post ++ [x]
            stage := .restoring { r with cursor := r.cursor - 1 } }, true)) ∧
    (2 ≤ w.flips + w.stuck →
      let lost := (b.modSlot n fun y =>
        { y with
          shadow := pre ++ post
          incomplete := true
          stage := match y.stage with
            | .restoring r => .restoring
                { r with cursor := if pre.length < r.cursor then r.cursor - 1 else r.cursor }
            | stage => stage }).noteUncorrectable g (.shadow x.number x.function x.offset) n .merge
      ∀ k : RecordId, lost.lowestFreeRecord = some k →
        offered = ((lost.writeShadow k be (payload &&& enableMask be)).modSlot n fun y =>
          { y with shadow := pre ++ post ++
              [{ number := k, function := x.function, offset := x.offset }] }, true))

/-- An offset is excluded when it lies from the first offset through the last offset, both included, of a valid one of the
slot's four ranges. -/
def Sys2Proof.Parts.ExclusionRanges : Prop :=
  ∀ (g : Settings) (n : SlotId) (offset : BitVec 12),
    g.excluded n offset = true ↔ ∃ k : Fin 4,
      let range := (g.slot n).exclusions.get k
      range.valid = true ∧ range.first.toNat ≤ offset.toNat ∧ offset.toNat ≤ range.last.toNat

/-- The record that a new key takes: the one with the lowest number of those that stand in no slot's list. One exists
while the four lists hold fewer than 384 records together, and so, under the shadow's law, while a list is below its limit
and after a record has been removed from one. -/
def Sys2Proof.Parts.FreeRecordTaken : Prop :=
  (∀ (b : Bridge) (k : RecordId),
    let listed := fun j : RecordId => ∃ n : SlotId, ∃ x ∈ (b.slot n).shadow, x.number = j
    b.lowestFreeRecord = some k ↔ ¬ listed k ∧ ∀ j, j < k → listed j) ∧
  (∀ b : Bridge, sumSlots (fun n => (b.slot n).shadow.length) < 384 →
    ∃ k, b.lowestFreeRecord = some k) ∧
  ∀ (s : State) (n : SlotId), ShadowLaw s →
    ((s.bridge.slot n).shadow.length < (s.settings.policy n).shadowLimit →
      ∃ k, s.bridge.lowestFreeRecord = some k) ∧
    ∀ position, position < (s.bridge.slot n).shadow.length →
      ∃ k, (s.bridge.removeRecord n position).lowestFreeRecord = some k

/-- A write offered to a slot's shadow, for a key that its list does not hold and for one that it holds; which offsets are
excluded, and which record a new key takes. -/
def Obligations.ShadowCapture : Prop :=
  Parts.ShadowKeepsNewKey ∧ Parts.ShadowMergesHeldKey ∧ Parts.ExclusionRanges ∧ Parts.FreeRecordTaken

/-! ### The management commands -/

/-- The end of a command's processing: the cell is DONE with its status, all-clear as it stands after the effect, the
request tag and the results; it leaves the queue; every other cell is as it was. -/
def Sys2Proof.Parts.CommandEndsInItsCell : Prop :=
  ∀ (s : State) (k : CellId) (a : Vector Word 8) (x : Answer),
    let t := s.finish k a x
    let status := match x with
      | .refused status => status
      | .done _ _ _ => .done
    let results := match x with
      | .refused _ => Vector.replicate 7 0
      | .done _ _ results => results
    let clear := ∃ n : SlotId, slotField a = n.val ∧ (t.bridge.slot n).flags = 0 ∧
      { (t.bridge.slot n).fault with recoveries := 0 } = FaultRecord.reset
    (t.mgmt.cells.get k).state = .done ∧ (t.mgmt.cells.get k).status = status ∧
      (t.mgmt.cells.get k).echo = (a.get 0).extractLsb' 16 16 ∧
      (t.mgmt.cells.get k).results = results ∧
      ((t.mgmt.cells.get k).allClear = true ↔ clear) ∧
      (t.mgmt.cells.get k).request = (s.mgmt.cells.get k).request ∧
      (∀ j : CellId, j ≠ k → t.mgmt.cells.get j = s.mgmt.cells.get j) ∧
      t.mgmt.queue = s.mgmt.queue.tail ∧ t.mgmt.collisions = s.mgmt.collisions ∧
      t.pending = s.pending ∧
      ∀ status, x = .refused status → t.settings = s.settings ∧ t.bridge = s.bridge

/-- An opcode outside Table 10-4 gives BAD_OPCODE, and a slot number of 4 to 15 gives BAD_ARGUMENT for every command that
names a slot. Neither changes anything but the cell. -/
def Sys2Proof.Parts.BadOpcodeAndSlotRefused : Prop :=
  ∀ (s : State) (k : CellId) (a : Vector Word 8), s.mgmt.headCell = some (k, a) →
    (opcodeOf a ∉ [0x01, 0x02, 0x03, 0x04, 0x05, 0x06, 0x07, 0x08, 0x09, 0x0A, 0x10, 0x11, 0x12,
        0x13, 0x20, 0x21, 0x22, 0x23, 0x24, 0x25, 0x26, 0x28, 0x29, 0x2A] →
      exec .badOpcode s = .next (s.finish k a (.refused .badOpcode))) ∧
    ∀ p ∈ slotCommands, opcodeOf a = p.1 → 4 ≤ slotField a →
      exec p.2 s = .next (s.finish k a (.refused .badArgument))

/-- The places of the opcode, the slot number and the request tag in word 0 of a request. -/
def Sys2Proof.Parts.RequestWordZero : Prop :=
  ∀ a : Vector Word 8,
    opcodeOf a = ((a.get 0).extractLsb' 0 8).toNat ∧
    slotField a = ((a.get 0).extractLsb' 8 4).toNat ∧
    (∀ n : SlotId, slotOf a = some n ↔ ((a.get 0).extractLsb' 8 4).toNat = n.val) ∧
    tagField a = (a.get 0).extractLsb' 16 16

/-- How a management command ends in its cell, and the refusals that need no more than word 0. -/
def Obligations.CommandEnds : Prop :=
  Parts.CommandEndsInItsCell ∧ Parts.BadOpcodeAndSlotRefused ∧ Parts.RequestWordZero

/-- SET-WINDOW loads an entry that fits and conflicts with no other, is refused BAD_ARGUMENT or OVERLAP otherwise, and
CLEAR-WINDOW makes an entry invalid; an index of 48 or more is refused by both. -/
def Sys2Proof.Parts.WindowCommands : Prop :=
  ∀ (s : State) (k : CellId) (a : Vector Word 8),
    let g := s.settings
    let answers := fun (c : Instr) (x : Answer) => exec c s = .next (s.finish k a x)
    let word := a.get 1
    let index := (word.extractLsb' 0 6).toNat
    let access := (word.extractLsb' 12 2).toNat
    let kind : WindowKind :=
      if word.getLsbD 8 then .grant (if access = 0 then .readWrite else if access = 1 then .readOnly
        else if access = 2 then .writeOnly else .closed)
      else .decode (if word.getLsbD 9 then .error else .ones)
    (∀ i : Fin 48, index = i.val →
      let put := fun w : Option Window => { g with windows := g.windows.set i w }
      (∀ owner, atHead s 0x01 k a → slotOf a = some owner →
        let w : Window :=
          { owner := owner, base := a.get 3 ++ a.get 2, limit := a.get 5 ++ a.get 4, kind := kind }
        let fits := w.base.toNat % 4096 = 0 ∧ w.limit.toNat % 4096 = 4095 ∧
          w.base.toNat ≤ w.limit.toNat
        let shares := ∃ (j : Fin 48) (v : Window), j ≠ i ∧ g.windows.get j = some v ∧
          v.base.toNat ≤ w.limit.toNat ∧ w.base.toNat ≤ v.limit.toNat ∧
          ((∃ x y, v.kind = .decode x ∧ w.kind = .decode y) ∨
            ∃ x y, v.kind = .grant x ∧ w.kind = .grant y ∧ v.owner = w.owner)
        (fits → ¬ shares →
          answers .setWindow (.done (put (some w)) s.bridge noResults)) ∧
        (fits → shares → answers .setWindow (.refused .overlap)) ∧
        (¬ fits → answers .setWindow (.refused .badArgument))) ∧
      (atHead s 0x02 k a → answers .clearWindow (.done (put none) s.bridge noResults))) ∧
    (48 ≤ index →
      (atHead s 0x01 k a → answers .setWindow (.refused .badArgument)) ∧
      (atHead s 0x02 k a → answers .clearWindow (.refused .badArgument)))

/-- SET-BUS-RANGE loads a range in order that shares no bus with another slot's valid range, or makes the slot's range
invalid with its bounds kept (log 12); first above last is refused whatever the valid argument (log 27). -/
def Sys2Proof.Parts.BusRangeCommand : Prop :=
  ∀ (s : State) (k : CellId) (a : Vector Word 8) (n : SlotId),
    atHead s 0x03 k a → slotOf a = some n →
    let g := s.settings
    let x : BusRange :=
      { first := (a.get 1).extractLsb' 0 8, last := (a.get 1).extractLsb' 8 8,
        valid := (a.get 1).getLsbD 16 }
    let ordered := x.first.toNat ≤ x.last.toNat
    let shares := ∃ m : SlotId, m ≠ n ∧ (g.slot m).busRange.valid = true ∧ x.valid = true ∧
      (g.slot m).busRange.first.toNat ≤ x.last.toNat ∧
      x.first.toNat ≤ (g.slot m).busRange.last.toNat
    let answers := fun y : Answer => exec .setBusRange s = .next (s.finish k a y)
    (ordered → ¬ shares → answers (.done
      (g.modSlot n fun z => { z with busRange := if x.valid then x
        else { z.busRange with valid := false } }) s.bridge noResults)) ∧
    (ordered → shares → answers (.refused .overlap)) ∧
    (¬ ordered → answers (.refused .badArgument))

/-- SET-WINDOW, CLEAR-WINDOW and SET-BUS-RANGE. -/
def Obligations.WindowAndBusCommands : Prop :=
  Parts.WindowCommands ∧ Parts.BusRangeCommand

/-- SET-SLOT-TIMING loads all six timings or none: a budget code of 11 to 15 becomes 10, a threshold of 0 becomes 1, and
any value out of its range is refused. -/
def Sys2Proof.Parts.SlotTimingCommand : Prop :=
  ∀ (s : State) (k : CellId) (a : Vector Word 8) (n : SlotId),
    atHead s 0x04 k a → slotOf a = some n →
    let t : SlotTiming :=
      { budgetCode := ((a.get 1).extractLsb' 0 8).toNat
        threshold := ((a.get 1).extractLsb' 8 8).toNat
        resetHold := ((a.get 2).extractLsb' 0 16).toNat
        linkTimeout := ((a.get 2).extractLsb' 16 16).toNat
        powerGoodTimeout := ((a.get 3).extractLsb' 0 16).toNat
        offTime := ((a.get 3).extractLsb' 16 16).toNat }
    let fits := t.budgetCode ≤ 15 ∧ t.threshold ≤ 15 ∧ 1 ≤ t.resetHold ∧ t.resetHold ≤ 1000 ∧
      10 ≤ t.linkTimeout ∧ t.linkTimeout ≤ 1000 ∧ 10 ≤ t.powerGoodTimeout ∧
      t.powerGoodTimeout ≤ 500 ∧ 100 ≤ t.offTime ∧ t.offTime ≤ 2000
    (fits → exec .setSlotTiming s = .next (s.finish k a (.done
      (s.settings.modSlot n fun z => { z with timing := { t with
        budgetCode := min t.budgetCode 10, threshold := max t.threshold 1 } })
      s.bridge noResults))) ∧
    (¬ fits → exec .setSlotTiming s = .next (s.finish k a (.refused .badArgument)))

/-- SET-SLOT-POLICY loads every policy or none: out of range BAD_ARGUMENT, a failed account or limit check NO_ROOM. The
attempt counter is cut to the new maximum, a change from KEEP to OFF turns PWREN off in PARKED, and a request for the
slot that waits at the head keeps the config answer that stood when it reached the head. -/
def Sys2Proof.Parts.SlotPolicyCommand : Prop :=
  ∀ (s : State) (k : CellId) (a : Vector Word 8) (n : SlotId),
    atHead s 0x05 k a → slotOf a = some n →
    let g := s.settings
    let b := s.bridge
    let word := a.get 1
    let p : SlotPolicy :=
      { autoRecover := word.getLsbD 0
        maxAttempts := (word.extractLsb' 4 4).toNat
        escalation := (word.extractLsb' 8 4).toNat
        fenceOnViolation := word.getLsbD 12
        configAnswer := if word.getLsbD 13 then .error else .ones
        messagePolicy := if word.getLsbD 14 then .absorb else .forward
        captureWhenAway := word.getLsbD 15
        shadowPolicy := if word.getLsbD 16 then .fail else .proceed
        parkPower := if word.getLsbD 17 then .keep else .off
        quota := ((a.get 2).extractLsb' 0 8).toNat
        shadowLimit := ((a.get 2).extractLsb' 16 9).toNat }
    let fits := 1 ≤ p.maxAttempts ∧ p.maxAttempts ≤ 7 ∧ 1 ≤ p.escalation ∧ p.escalation ≤ 7 ∧
      p.quota ≤ 48 ∧ p.shadowLimit ≤ 384
    let quotas := fun m => if m = n then p.quota else (g.policy m).quota
    let limits := fun m => if m = n then p.shadowLimit else (g.policy m).shadowLimit
    let room := b.poolUse quotas ≤ 256 - sumSlots quotas ∧ sumSlots limits ≤ 384 ∧
      (b.slot n).shadow.length ≤ p.shadowLimit
    let waiting := match b.upIngress with
      | { txn := .request _, route := .slot m _ } :: _ => decide (m = n)
      | _ => false
    let kept : Bridge := { b with
      headAnswer := if waiting = true
        then some (b.headAnswer.getD (g.policy n).configAnswer) else b.headAnswer }
    let cut := kept.modSlot n fun x => { x with attempts := min x.attempts p.maxAttempts }
    let after := if (b.slot n).stage = .parked ∧ (g.policy n).parkPower = .keep ∧
      p.parkPower = .off then cut.pwrenOff n else cut
    let answers := fun x : Answer => exec .setSlotPolicy s = .next (s.finish k a x)
    (fits → room → answers (.done (g.modSlot n fun z => { z with policy := p }) after noResults)) ∧
    (fits → ¬ room → answers (.refused .noRoom)) ∧
    (¬ fits → answers (.refused .badArgument))

/-- SET-PART-POLICY loads every part policy and the alert settings or none, with B and the host answer code clamped. -/
def Sys2Proof.Parts.PartPolicyCommand : Prop :=
  ∀ (s : State) (k : CellId) (a : Vector Word 8), atHead s 0x06 k a →
    let field := fun (k : Fin 8) (lo len : Nat) => ((a.get k).extractLsb' lo len).toNat
    let p : PartPolicy :=
      { pieceSize := field 1 0 9, inrushCount := field 1 12 3, inrushWindow := field 1 16 10
        burst := field 2 0 8, quietInterval := field 2 8 8, stallLimit := field 2 16 8
        hostAnswerCode := field 2 24 8, holdLimit := field 3 0 10 }
    let alert : AlertSettings :=
      { address := a.get 5 ++ a.get 4, data := a.get 6
        slotEnables := (a.get 3).extractLsb' 16 8, partEnables := (a.get 3).extractLsb' 24 2 }
    let fits := (p.pieceSize = 64 ∨ p.pieceSize = 128 ∨ p.pieceSize = 256) ∧ 1 ≤ p.inrushCount ∧
      p.inrushCount ≤ 4 ∧ 50 ≤ p.inrushWindow ∧ p.inrushWindow ≤ 1000 ∧ 1 ≤ p.quietInterval ∧
      p.quietInterval ≤ 255 ∧ 1 ≤ p.stallLimit ∧ p.stallLimit ≤ 100 ∧ p.hostAnswerCode ≤ 15 ∧
      10 ≤ p.holdLimit ∧ p.holdLimit ≤ 1000 ∧ alert.address.toNat % 4 = 0
    (fits → exec .setPartPolicy s = .next (s.finish k a (.done
      { s.settings with
        part := { p with burst := min (max p.burst 1) 16, hostAnswerCode := min p.hostAnswerCode 10 }
        alert := alert } s.bridge noResults))) ∧
    (¬ fits → exec .setPartPolicy s = .next (s.finish k a (.refused .badArgument)))

/-- SET-SLOT-TIMING, SET-SLOT-POLICY and SET-PART-POLICY. -/
def Obligations.TimingAndPolicyCommands : Prop :=
  Parts.SlotTimingCommand ∧ Parts.SlotPolicyCommand ∧ Parts.PartPolicyCommand

/-- SET-SIDEBAND loads the six inversions; each input is looked at again under its new polarity, and nothing else of
the slot changes. -/
def Sys2Proof.Parts.SidebandCommand : Prop :=
  ∀ (s : State) (k : CellId) (a : Vector Word 8) (n : SlotId),
    atHead s 0x07 k a → slotOf a = some n →
    let v : Inversions :=
      { prsnt := (a.get 1).getLsbD 0, pwrgd := (a.get 1).getLsbD 1, attn := (a.get 1).getLsbD 2,
        pwren := (a.get 1).getLsbD 3, srst := (a.get 1).getLsbD 4, ind := (a.get 1).getLsbD 5 }
    let old := s.bridge.slot n
    let start := fun line : InputLine =>
      if ((old.pins.get line) == activeHigh v line) = old.filtered.get line then none
      else some ((old.changeStart.get line).getD s.bridge.now)
    exec .setSideband s = .next (s.finish k a (.done
      (s.settings.modSlot n fun z => { z with inversions := v })
      (s.bridge.modSlot n fun x => { x with changeStart :=
        { prsnt := start .prsnt, pwrgd := start .pwrgd, attn := start .attn } })
      noResults))

/-- LOAD-SCRIPT-STEP and SET-SCRIPT write the stored script, and SET-EXCLUSION a range, or are refused BAD_ARGUMENT. The
function and offset are checked whatever the kind (log 32). -/
def Sys2Proof.Parts.ScriptAndExclusionCommands : Prop :=
  ∀ (s : State) (k : CellId) (a : Vector Word 8) (n : SlotId), slotOf a = some n →
    let g := s.settings
    let w := a.get 1
    let position := (w.extractLsb' 0 4).toNat
    let kind := (w.extractLsb' 4 4).toNat
    let offset := ((a.get 2).extractLsb' 0 16).toNat
    let offset2 := ((a.get 2).extractLsb' 16 16).toNat
    let stepFits := position ≤ 11 ∧ kind ≤ 3 ∧ (w.extractLsb' 8 4).toNat ≤ 7 ∧ offset ≤ 4092 ∧
      offset % 4 = 0 ∧ (kind = 3 → (w.extractLsb' 24 8).toNat ≠ 0)
    let step : ScriptStep :=
      let function := w.extractLsb' 8 3
      let at12 := (a.get 2).extractLsb' 0 12
      match kind with
      | 0 => .readExpect function at12 (a.get 3) (a.get 4)
          (if w.getLsbD 12 then .notEqual else .equal)
      | 1 => .write function at12 (w.extractLsb' 16 4) (a.get 4)
      | 2 => .echo function at12 (a.get 3) (a.get 4)
      | _ => .wait (w.extractLsb' 24 8).toNat
    let length := (w.extractLsb' 0 8).toNat
    let interval := (w.extractLsb' 16 8).toNat
    let rangeFits := position ≤ 3 ∧ offset ≤ 4092 ∧ offset % 4 = 0 ∧ offset2 ≤ 4092 ∧
      offset2 % 4 = 0 ∧ (w.getLsbD 8 = true → offset ≤ offset2)
    let answers := fun (c : Instr) (x : Answer) => exec c s = .next (s.finish k a x)
    (atHead s 0x08 k a → stepFits →
      answers .loadScriptStep (.done
        (g.modSlot n fun z => { z with script :=
          { z.script with steps := z.script.steps.setIfInBounds position step } })
        s.bridge noResults)) ∧
    (atHead s 0x08 k a → ¬ stepFits → answers .loadScriptStep (.refused .badArgument)) ∧
    (atHead s 0x09 k a → length ≤ 12 ∧ interval ≠ 0 →
      answers .setScript (.done
        (g.modSlot n fun z => { z with script :=
          { z.script with
            length := length
            retryLimit := (w.extractLsb' 8 8).toNat
            retryInterval := interval } }) s.bridge noResults)) ∧
    (atHead s 0x09 k a → ¬ (length ≤ 12 ∧ interval ≠ 0) →
      answers .setScript (.refused .badArgument)) ∧
    (∀ i : Fin 4, atHead s 0x0A k a → rangeFits → position = i.val →
      let e : Exclusion :=
        { first := BitVec.ofNat 12 offset, last := BitVec.ofNat 12 offset2, valid := true }
      let put := fun z : SlotSettings =>
        if w.getLsbD 8 then e else { z.exclusions.get i with valid := false }
      answers .setExclusion (.done
        (g.modSlot n fun z => { z with exclusions := z.exclusions.set i (put z) })
        s.bridge noResults)) ∧
    (atHead s 0x0A k a → ¬ rangeFits → answers .setExclusion (.refused .badArgument))

/-- SET-SIDEBAND, LOAD-SCRIPT-STEP, SET-SCRIPT and SET-EXCLUSION. -/
def Obligations.SidebandAndScriptCommands : Prop :=
  Parts.SidebandCommand ∧ Parts.ScriptAndExclusionCommands

/-- The slot commands by the slot's state, as Table 4-8 gives: each takes its effect where it is accepted and is refused
WRONG_STATE elsewhere. -/
def Sys2Proof.Parts.SlotCommandsByState : Prop :=
  ∀ (s : State) (k : CellId) (a : Vector Word 8) (n : SlotId), slotOf a = some n →
    let g := s.settings
    let stage := (s.bridge.slot n).stage
    let done := fun (c : Instr) (b : Bridge) =>
      exec c s = .next (s.finish k a (.done g (b.settle g) noResults))
    let wrong := fun c : Instr => exec c s = .next (s.finish k a (.refused .wrongState))
    (atHead s 0x10 k a → stage = .off →
      done .powerOn ((s.bridge.modSlot n fun x =>
        { x with restore := (a.get 1).getLsbD 0, attempts := 0 }).enterPowering g n)) ∧
    (atHead s 0x10 k a → stage ≠ .off → wrong .powerOn) ∧
    (atHead s 0x11 k a → stage ≠ .empty → stage ≠ .off →
      done .powerOff ((s.bridge.leave g n).enterUnpowered g n .off)) ∧
    (atHead s 0x11 k a → stage = .empty ∨ stage = .off → wrong .powerOff) ∧
    (atHead s 0x12 k a → stage = .admitted →
      done .fence (s.bridge.takeTrigger g n .commanded)) ∧
    (atHead s 0x12 k a → stage ≠ .admitted → wrong .fence) ∧
    (atHead s 0x13 k a → stage = .fenced →
      done .recover ((s.bridge.modSlot n fun x => { x with restore := true }).enterResetting g n)) ∧
    (atHead s 0x13 k a → stage = .parked →
      done .recover ((s.bridge.modSlot n fun x =>
        { x with attempts := 0, restore := true }).enterResetting g n)) ∧
    (atHead s 0x13 k a → stage ≠ .fenced → stage ≠ .parked → wrong .recover)

/-- POWER-ON leads to POWERING in phase QUEUED at the end of the Power Queue, and POWER-OFF to OFF with the power off and
the recovery state cleared. -/
def Sys2Proof.Parts.PowerOnAndOffStates : Prop :=
  ∀ (b : Bridge) (g : Settings) (n : SlotId),
    (let c := b.enterPowering g n;
      (c.slot n).stage = .powering .queued ∧ c.powerQueue = b.powerQueue ++ [n] ∧
        (c.slot n).pwren = (b.slot n).pwren ∧ (c.slot n).attempts = (b.slot n).attempts) ∧
    (let c := (b.leave g n).enterUnpowered g n .off;
      (c.slot n).stage = .off ∧ (c.slot n).pwren = false ∧ (c.slot n).watch = false ∧
        (c.slot n).attempts = 0 ∧ (c.slot n).restore = false ∧ (c.slot n).ingress = [] ∧
        (c.slot n).egress = [] ∧
        (∀ p, (b.slot n).stage = .powering p → n ∉ c.powerQueue) ∧
        ((b.slot n).stage = .qualifying → n ∉ c.qualQueue))

/-- POWER-ON, POWER-OFF, FENCE and RECOVER. -/
def Obligations.SlotStateCommands : Prop :=
  Parts.SlotCommandsByState ∧ Parts.PowerOnAndOffStates

/-- READ-SLOT returns the named page, 0 to 4, and changes nothing; a page above 4 is refused. -/
def Sys2Proof.Parts.ReadSlotCommand : Prop :=
  ∀ (s : State) (k : CellId) (a : Vector Word 8) (n : SlotId) (page : Nat),
    atHead s 0x20 k a → slotOf a = some n → page = ((a.get 1).extractLsb' 0 4).toNat →
    let g := s.settings
    let b := s.bridge
    let answers := fun ws : List Word =>
      exec .readSlot s = .next (s.finish k a (.done g b (resultsOf ws)))
    (page = 0 → answers (b.slot n).page0) ∧ (page = 1 → answers (b.page1 g n)) ∧
      (page = 2 → answers (b.page2 g n)) ∧ (page = 3 → answers (b.page3 g n)) ∧
      (page = 4 → answers g.page4) ∧
      (4 < page → exec .readSlot s = .next (s.finish k a (.refused .badArgument)))

/-- READ-ENTRY returns the entry as the read leaves it, and READ-SHADOW the record at a position; a record that is bad is
removed first, and a replay that this leaves with no record due ends as `Parts.ReplayRechecked` states (log 22). An index
above 255 or a position above 383 is refused. -/
def Sys2Proof.Parts.ReadStorageCommands : Prop :=
  ∀ (s : State) (k : CellId) (a : Vector Word 8),
    let g := s.settings
    let x := ((a.get 1).extractLsb' 0 16).toNat
    let done := fun (c : Instr) (b : Bridge) (ws : List Word) =>
      exec c s = .next (s.finish k a (.done g b (resultsOf ws)))
    (∀ i : BridgeTag, atHead s 0x21 k a → x = i.val →
      let c := (s.bridge.readEntry g i .readEntry).1
      done .readEntry (c.settle g) (c.status i).words) ∧
    (atHead s 0x21 k a → 255 < x →
      exec .readEntry s = .next (s.finish k a (.refused .badArgument))) ∧
    (∀ n key, atHead s 0x22 k a → slotOf a = some n → x ≤ 383 →
      (s.bridge.slot n).shadow[x]? = some key →
      let w := s.bridge.shadowWords.get key.number
      (w.flips + w.stuck = 0 →
        done .readShadow s.bridge ((s.bridge.slot n).shadowWords key w.union w.value)) ∧
      (w.flips + w.stuck = 1 →
        let c := (s.bridge.writeShadow key.number w.union w.value).noteCorrection g
        done .readShadow c ((c.slot n).shadowWords key w.union w.value)) ∧
      (2 ≤ w.flips + w.stuck →
        let c := ((s.bridge.removeRecord n x).setIncomplete n).noteUncorrectable g
          (.shadow key.number key.function key.offset) n .readShadow
        done .readShadow ((c.replayRecheck g n).settle g) [(c.slot n).shadowWord])) ∧
    (∀ n, atHead s 0x22 k a → slotOf a = some n → x ≤ 383 →
      (s.bridge.slot n).shadow.length ≤ x →
      done .readShadow s.bridge [(s.bridge.slot n).shadowWord]) ∧
    (∀ n, atHead s 0x22 k a → slotOf a = some n → 383 < x →
      exec .readShadow s = .next (s.finish k a (.refused .badArgument)))

/-- The codes that READ-SLOT, READ-ENTRY and READ-ERROR-LOG return: the states as in the summary record, and the reasons,
causes, activities and events from 1 in the order of their owning tables. -/
def Sys2Proof.Parts.ReadBackCodes : Prop :=
  [Trigger.suspicion, .commanded, .linkLost, .cardFatal, .completionFault, .violation, .headStall,
    .powerLost, .presenceLost].map Trigger.code = [1, 2, 3, 4, 5, 6, 7, 8, 9] ∧
  [ParkReason.linkTimeout, .qualifyFail, .restoreFail, .shadowIncomplete, .linkLost, .cardFatal,
    .completionFault, .headStall, .powerFault, .powerLost].map ParkReason.code
      = [1, 2, 3, 4, 5, 6, 7, 8, 9, 10] ∧
  [StepCause.mismatch, .aborted, .unsupported, .retriesExhausted, .expired].map StepCause.code
    = [1, 2, 3, 4, 5] ∧
  [ReplayCause.aborted, .unsupported, .retriesExhausted, .expired, .incomplete].map ReplayCause.code
    = [1, 2, 3, 4, 5] ∧
  [ReadEvent.matching, .examine, .search, .standIn, .readEntry, .merge, .replayTake, .readShadow,
    .itemLeft].map ReadEvent.code = [1, 2, 3, 4, 5, 6, 7, 8, 9] ∧
  (∀ t : Time, Activity.code (.issueWait t) = 1 ∧ Activity.code (.retryWait t) = 3 ∧
    Activity.code (.pause t) = 4) ∧
  (∀ i : BridgeTag, Activity.code (.awaitAnswer i) = 2) ∧
  ∀ stage : Stage, stage.code = match stage with
    | .empty => 0
    | .off => 1
    | .powering _ => 2
    | .resetting _ _ => 3
    | .linking _ => 4
    | .qualifying => 5
    | .restoring _ => 6
    | .admitted => 7
    | .fenced => 8
    | .parked => 9

/-- READ-SLOT page 0 (Table 10-5): the sequencer, the phase start and the fault record, two counters a word. -/
def Sys2Proof.Parts.ReadSlotPageZero : Prop :=
  ∀ s : Slot, ∃ w9 w11 w12 w13 w14 w15 : Word,
    s.page0 = [w9,
      (match s.stage with
        | .resetting _ start => start
        | _ => 0), w11, w12, w13, w14, w15] ∧
    hasField w9 0 4 s.stage.code ∧
    hasField w9 4 2 (match s.stage with
      | .resetting .warmHold _ => 1
      | .resetting .offWait _ => 2
      | _ => 0) ∧
    hasField w9 6 2 0 ∧ hasField w9 8 3 s.attempts ∧ w9.getLsbD 11 = s.restore ∧
    hasField w9 12 4 (match s.fault.fenceReason with
      | some t => t.code
      | none => 0) ∧
    hasField w9 16 4 (match s.fault.parkReason with
      | some p => p.code
      | none => 0) ∧
    hasField w9 20 4 s.suspicion ∧ w9.getLsbD 24 = s.linkUp ∧ hasField w9 25 7 0 ∧
    hasField w11 0 16 s.fault.expiries ∧ hasField w11 16 16 s.fault.standInPieces ∧
    hasField w12 0 16 s.fault.discarded ∧ hasField w12 16 16 s.fault.violations ∧
    hasField w13 0 16 s.fault.unexpected ∧ hasField w13 16 16 s.fault.late ∧
    hasField w14 0 16 s.fault.nonfatal ∧ hasField w14 16 16 s.fault.correctable ∧
    hasField w15 0 16 s.fault.fenceEvents ∧ hasField w15 16 16 s.fault.recoveries

/-- READ-SLOT page 1 (Table 10-5): the policies in the bits of SET-SLOT-POLICY word 1, the account, the shadow's count
and the timings. -/
def Sys2Proof.Parts.ReadSlotPageOne : Prop :=
  ∀ (b : Bridge) (g : Settings) (n : SlotId), ∃ w9 w10 w11 w12 w13 w14 : Word,
    b.page1 g n = [w9, w10, w11, w12, w13, w14] ∧
    let p := g.policy n
    let t := g.timing n
    w9.getLsbD 0 = p.autoRecover ∧ hasField w9 1 3 0 ∧ hasField w9 4 4 p.maxAttempts ∧
    hasField w9 8 4 p.escalation ∧ w9.getLsbD 12 = p.fenceOnViolation ∧
    w9.getLsbD 13 = decide (p.configAnswer = .error) ∧
    w9.getLsbD 14 = decide (p.messagePolicy = .absorb) ∧ w9.getLsbD 15 = p.captureWhenAway ∧
    w9.getLsbD 16 = decide (p.shadowPolicy = .fail) ∧
    w9.getLsbD 17 = decide (p.parkPower = .keep) ∧ hasField w9 18 14 0 ∧
    hasField w10 0 8 p.quota ∧ hasField w10 8 8 0 ∧ hasField w10 16 9 (b.inUseCount n) ∧
    hasField w10 25 7 0 ∧
    hasField w11 0 9 p.shadowLimit ∧ hasField w11 9 7 0 ∧
    hasField w11 16 9 (b.slot n).shadow.length ∧ hasField w11 25 7 0 ∧
    hasField w12 0 8 t.budgetCode ∧ hasField w12 8 8 t.threshold ∧ hasField w12 16 16 0 ∧
    hasField w13 0 16 t.resetHold ∧ hasField w13 16 16 t.linkTimeout ∧
    hasField w14 0 16 t.powerGoodTimeout ∧ hasField w14 16 16 t.offTime

/-- READ-SLOT page 2 (Table 10-5): the lines, the inversions, the power sequence with the queue positions, the engine while
it serves the slot, the result record and the settings of the stored script. -/
def Sys2Proof.Parts.ReadSlotPageTwo : Prop :=
  ∀ (b : Bridge) (g : Settings) (n : SlotId), ∃ w9 w10 w11 w12 w13 w14 w15 : Word,
    b.page2 g n = [w9, w10, w11, w12, w13, w14, w15] ∧
    let s := b.slot n
    let v := (g.slot n).inversions
    let x := (g.slot n).script
    let place := fun (w : Word) (lo : Nat) (q : List SlotId) =>
      (n ∉ q → hasField w lo 3 0) ∧
        ∀ pre post, q = pre ++ n :: post → n ∉ pre → hasField w lo 3 (pre.length + 1)
    w9.getLsbD 0 = s.filtered.prsnt ∧ w9.getLsbD 1 = s.filtered.pwrgd ∧
    w9.getLsbD 2 = s.filtered.attn ∧ w9.getLsbD 3 = s.pwren ∧ w9.getLsbD 4 = s.stage.srst ∧
    w9.getLsbD 5 = s.ind.lit ∧ hasField w9 6 2 0 ∧ w9.getLsbD 8 = v.prsnt ∧
    w9.getLsbD 9 = v.pwrgd ∧ w9.getLsbD 10 = v.attn ∧ w9.getLsbD 11 = v.pwren ∧
    w9.getLsbD 12 = v.srst ∧ w9.getLsbD 13 = v.ind ∧ hasField w9 14 2 0 ∧
    hasField w9 16 2 (match s.stage with
      | .powering .queued => 1
      | .powering (.awaitPwrgd _) => 2
      | .powering (.hold _ _) => 3
      | _ => 0) ∧
    hasField w9 18 2 0 ∧ place w9 20 b.powerQueue ∧ w9.getLsbD 23 = false ∧
    place w9 24 b.qualQueue ∧ hasField w9 27 5 0 ∧
    w10 = (match s.stage with
      | .powering (.awaitPwrgd grant) => grant
      | .powering (.hold grant _) => grant
      | _ => 0) ∧
    w11 = (match s.stage with
      | .powering (.hold _ good) => good
      | _ => 0) ∧
    (∀ r, b.run = some r → r.slot = n →
      w12.getLsbD 0 = true ∧ hasField w12 1 3 0 ∧ hasField w12 4 4 r.index ∧
      w12.getLsbD 8 = decide (r.half = some .read) ∧ hasField w12 9 3 0 ∧
      hasField w12 12 3 r.activity.code ∧ w12.getLsbD 15 = false ∧
      hasField w12 16 8 r.retryCount ∧ hasField w12 24 8 0) ∧
    ((∀ r, b.run = some r → r.slot ≠ n) → w12 = 0) ∧
    (s.qualResult = none → w13 = 0 ∧ w14 = 0) ∧
    (s.qualResult = some .pass → w13 = 1 ∧ w14 = 0) ∧
    (∀ step cause observed, s.qualResult = some (.fail step cause observed) →
      hasField w13 0 2 2 ∧ hasField w13 2 2 0 ∧ hasField w13 4 4 step ∧
      hasField w13 8 3 cause.code ∧ hasField w13 11 21 0 ∧ w14 = observed.getD 0) ∧
    hasField w15 0 8 x.length ∧ hasField w15 8 8 x.retryLimit ∧
    hasField w15 16 8 x.retryInterval ∧ hasField w15 24 8 0

/-- READ-SLOT pages 3 and 4 (Table 10-5; page 4 in the layout of SET-PART-POLICY words 1 to 6): the shadow's flag and its
active replay, the replay result and the exclusion ranges; the part policies and the alert settings. The bounds of a
range that is not valid are the model's (log 12). -/
def Sys2Proof.Parts.ReadSlotPagesThreeAndFour : Prop :=
  (∀ (b : Bridge) (g : Settings) (n : SlotId), ∃ (w9 w10 w11 : Word) (ranges : List Word),
    b.page3 g n = w9 :: w10 :: w11 :: ranges ∧ ranges.length = 4 ∧
    let s := b.slot n
    w9.getLsbD 0 = s.incomplete ∧
    (∀ r, s.stage = .restoring r →
      w9.getLsbD 1 = true ∧ hasField w9 2 2 r.activity.code ∧ hasField w9 4 4 0 ∧
      hasField w9 8 8 r.retryCount ∧ hasField w9 16 9 r.cursor ∧ hasField w9 25 7 0) ∧
    ((∀ r, s.stage ≠ .restoring r) → hasField w9 1 31 0) ∧
    (s.replayResult = none → w10 = 0 ∧ w11 = 0) ∧
    (∀ sent, s.replayResult = some (.done sent) →
      w10 = 1 ∧ hasField w11 0 16 sent ∧ hasField w11 16 16 0) ∧
    (∀ cause key sent, s.replayResult = some (.failed cause key sent) →
      hasField w10 0 2 2 ∧ hasField w10 2 2 0 ∧ hasField w10 4 3 cause.code ∧
      w10.getLsbD 7 = false ∧ hasField w10 11 5 0 ∧ hasField w10 28 4 0 ∧
      w10.extractLsb' 8 3 = (key.map Prod.fst).getD 0 ∧
      w10.extractLsb' 16 12 = (key.map Prod.snd).getD 0 ∧
      hasField w11 0 16 sent ∧ hasField w11 16 16 0) ∧
    ∀ k : Fin 4, ∃ w, ranges[k.val]? = some w ∧
      let e := (g.slot n).exclusions.get k
      w.extractLsb' 0 12 = e.first ∧ hasField w 12 4 0 ∧ w.extractLsb' 16 12 = e.last ∧
      hasField w 28 3 0 ∧ w.getLsbD 31 = e.valid) ∧
  ∀ g : Settings, ∃ w9 w10 w11 : Word,
    g.page4 = [w9, w10, w11, g.alert.address.extractLsb' 0 32,
      g.alert.address.extractLsb' 32 32, g.alert.data] ∧
    let p := g.part
    hasField w9 0 9 p.pieceSize ∧ hasField w9 9 3 0 ∧ hasField w9 12 3 p.inrushCount ∧
    w9.getLsbD 15 = false ∧ hasField w9 16 10 p.inrushWindow ∧ hasField w9 26 6 0 ∧
    hasField w10 0 8 p.burst ∧ hasField w10 8 8 p.quietInterval ∧
    hasField w10 16 8 p.stallLimit ∧ hasField w10 24 8 p.hostAnswerCode ∧
    hasField w11 0 10 p.holdLimit ∧ hasField w11 10 6 0 ∧
    w11.extractLsb' 16 8 = g.alert.slotEnables ∧ w11.extractLsb' 24 2 = g.alert.partEnables ∧
    hasField w11 26 6 0

/-- The words of READ-ENTRY, by Table 10-6: a FREE entry, a LOST one, and an IN-USE one of every state, kind, origin and
target. The place of the requester's bus, device and function in word 10 is the model's reading (log 10). -/
def Sys2Proof.Parts.ReadEntryWords : Prop :=
  EntryStatus.words .free = [] ∧
  (∀ account : SlotId, ∃ w, EntryStatus.words (.lost account) = [w] ∧
    hasField w 0 3 4 ∧ hasField w 3 13 0 ∧ hasField w 16 2 account.val ∧ hasField w 18 14 0) ∧
  ∀ (account : SlotId) (r : EntryRecord), ∃ w9 w10 w11 w12 w13 w14 : Word,
    EntryStatus.words (.inUse account r) = [w9, w10, w11, w12, w13, w14, r.allocatedAt] ∧
    hasField w9 3 1 0 ∧ hasField w9 6 2 0 ∧ w9.getLsbD 11 = false ∧ w9.getLsbD 15 = false ∧
    hasField w9 16 2 account.val ∧ w9.getLsbD 18 = r.answer.isSome ∧
    w9.getLsbD 19 = decide (r.answer = some .error) ∧ hasField w9 22 10 0 ∧
    (∀ d, r.phase = .opened d →
      hasField w9 0 3 1 ∧ hasField w9 20 2 0 ∧ w14 = d) ∧
    (∀ hold listed pending, r.phase = .stoodIn hold listed pending →
      hasField w9 0 3 2 ∧ w9.getLsbD 20 = !listed ∧ w9.getLsbD 21 = pending ∧ w14 = hold) ∧
    (∀ hold, r.phase = .orphaned hold →
      hasField w9 0 3 3 ∧ hasField w9 20 2 0 ∧ w14 = hold) ∧
    (∀ q, r.origin.requester = some q →
      w10.extractLsb' 0 16 = q.id.bus ++ q.id.device ++ q.id.function ∧
      w10.extractLsb' 16 16 = q.tag) ∧
    (∀ q, r.origin = .upstream q → hasField w9 8 3 0) ∧
    (∀ m q, r.origin = .slot m q → hasField w9 8 3 (4 + m.val)) ∧
    (∀ p, r.origin = .bridge p → hasField w9 8 3 1 ∧ w10 = 0) ∧
    (r.target = .upstream → hasField w9 12 3 0) ∧
    (∀ m, r.target = .slot m → hasField w9 12 3 (4 + m.val)) ∧
    (∀ addr length delivered, r.asked = .memRead addr length delivered →
      hasField w9 4 2 0 ∧ w11 = addr.extractLsb' 0 32 ∧ w12 = addr.extractLsb' 32 32 ∧
      hasField w13 0 13 length ∧
      ((∀ p, r.origin ≠ .bridge p) → hasField w13 16 13 delivered)) ∧
    (∀ t be, r.asked = .cfgRead t be → hasField w9 4 2 1) ∧
    (∀ t be, r.asked = .cfgWrite t be → hasField w9 4 2 2) ∧
    (∀ t be, r.asked = .cfgRead t be ∨ r.asked = .cfgWrite t be →
      w11.extractLsb' 0 8 = t.bus ∧ w11.extractLsb' 8 5 = t.device ∧ hasField w11 13 3 0 ∧
      w11.extractLsb' 16 3 = t.function ∧ w11.getLsbD 19 = false ∧
      w11.extractLsb' 20 12 = t.offset ∧ w12.extractLsb' 0 4 = be ∧ hasField w12 4 28 0 ∧
      hasField w13 0 13 4 ∧ ((∀ p, r.origin ≠ .bridge p) → hasField w13 16 13 0)) ∧
    hasField w13 13 3 0 ∧
    ((∀ p, r.origin ≠ .bridge p) → hasField w13 29 3 0) ∧
    (∀ k, r.origin = .bridge (.script k) →
      hasField w13 16 9 k ∧ hasField w13 25 7 0) ∧
    ∀ k, r.origin = .bridge (.replay k) →
      hasField w13 16 9 k ∧ hasField w13 25 6 0 ∧ w13.getLsbD 31 = true

/-- The words of READ-SHADOW, by Table 10-6, with a record and with none at the position. -/
def Sys2Proof.Parts.ReadShadowWords : Prop :=
  ∀ (s : Slot) (x : ShadowKey) (union : BitVec 4) (value : Word),
    (∃ w9 w10 : Word, s.shadowWords x union value = [w9, w10, value] ∧
      hasField w9 0 9 s.shadow.length ∧ hasField w9 9 3 0 ∧ w9.getLsbD 12 = s.incomplete ∧
      hasField w9 13 2 0 ∧ w9.getLsbD 15 = true ∧ hasField w9 16 9 x.number.val ∧
      hasField w9 25 7 0 ∧ w10.extractLsb' 0 3 = x.function ∧ hasField w10 3 5 0 ∧
      w10.extractLsb' 8 4 = union ∧ hasField w10 12 4 0 ∧ w10.extractLsb' 16 12 = x.offset ∧
      hasField w10 28 4 0) ∧
    hasField s.shadowWord 0 9 s.shadow.length ∧ hasField s.shadowWord 9 3 0 ∧
    s.shadowWord.getLsbD 12 = s.incomplete ∧ hasField s.shadowWord 13 19 0

/-- READ-SLOT, READ-ENTRY and READ-SHADOW. -/
def Obligations.ReadCommands : Prop :=
  Parts.ReadSlotCommand ∧ Parts.ReadBackCodes ∧ Parts.ReadSlotPageZero ∧ Parts.ReadSlotPageOne ∧
    Parts.ReadSlotPageTwo ∧ Parts.ReadSlotPagesThreeAndFour ∧ Parts.ReadStorageCommands ∧
    Parts.ReadEntryWords ∧ Parts.ReadShadowWords

/-- DELETE-SHADOW-RECORD removes the record with the key, CLEAR-SHADOW every record of the slot with its INCOMPLETE flag;
a key not in the list changes nothing. -/
def Sys2Proof.Parts.ShadowCommands : Prop :=
  ∀ (s : State) (k : CellId) (a : Vector Word 8) (n : SlotId), slotOf a = some n →
    let g := s.settings
    let b := s.bridge
    let f := ((a.get 1).extractLsb' 0 4).toNat
    let o := ((a.get 2).extractLsb' 0 16).toNat
    let fits := f ≤ 7 ∧ o ≤ 4092 ∧ o % 4 = 0
    let key := fun x : ShadowKey => x.function.toNat = f ∧ x.offset.toNat = o
    let done := fun (c : Instr) (d : Bridge) =>
      exec c s = .next (s.finish k a (.done g (d.settle g) noResults))
    (atHead s 0x23 k a → fits → (∀ x ∈ (b.slot n).shadow, ¬ key x) →
      done .deleteShadowRecord b) ∧
    (∀ pre x post, atHead s 0x23 k a → fits → (b.slot n).shadow = pre ++ x :: post →
      (∀ y ∈ pre, ¬ key y) → key x →
      done .deleteShadowRecord ((b.removeRecord n pre.length).replayRecheck g n)) ∧
    (atHead s 0x23 k a → ¬ fits →
      exec .deleteShadowRecord s = .next (s.finish k a (.refused .badArgument))) ∧
    (atHead s 0x24 k a →
      done .clearShadow ((b.modSlot n fun x =>
        { x with
          shadow := []
          incomplete := false
          stage := x.stage.mapCursor fun _ => 0 }).replayRecheck g n)) ∧
    ∀ p, ((b.removeRecord n p).slot n).shadow = (b.slot n).shadow.eraseIdx p ∧
      ((b.removeRecord n p).slot n).incomplete = (b.slot n).incomplete

/-- CLEAR-FAULTS clears the fault record but for recoveries, with the suspicion counter and its reference; CLEAR-ALERTS
clears the named flags and no other, and leaves the send list. -/
def Sys2Proof.Parts.ClearFaultsAndAlerts : Prop :=
  ∀ (s : State) (k : CellId) (a : Vector Word 8) (n : SlotId), slotOf a = some n →
    let done := fun (c : Instr) (b : Bridge) =>
      exec c s = .next (s.finish k a (.done s.settings b noResults))
    (atHead s 0x25 k a →
      done .clearFaults (s.bridge.modSlot n fun x =>
        { x with
          fault := { FaultRecord.reset with recoveries := x.fault.recoveries }
          suspicion := 0
          quietRef := s.bridge.now })) ∧
    (atHead s 0x26 k a →
      let cleared := s.bridge.modSlot n fun x =>
        { x with flags := x.flags &&& ~~~ (a.get 1).extractLsb' 0 8 }
      done .clearAlerts { cleared with
        partFlags := s.bridge.partFlags &&& ~~~ (a.get 1).extractLsb' 8 2 })

/-- CLEAR-ERROR-LOG clears the log and nothing else, so the next uncorrectable error latches and the next correction is
announced; READ-ERROR-LOG returns it and changes nothing; RECLAIM-LOST frees every LOST index and no other. -/
def Sys2Proof.Parts.ErrorLogCommands : Prop :=
  ∀ (s : State) (k : CellId) (a : Vector Word 8),
    let g := s.settings
    let b := s.bridge
    let done := fun (c : Instr) (d : Bridge) (ws : Vector Word 7) =>
      exec c s = .next (s.finish k a (.done g d ws))
    (atHead s 0x28 k a → done .readErrorLog b (resultsOf b.log.words)) ∧
    (atHead s 0x29 k a →
      done .clearErrorLog { b with
        log := { latched := none, overflow := 0, corrected := 0, announced := false } }
        noResults) ∧
    (∀ e : Latched, ErrorLog.report
      { latched := none, overflow := 0, corrected := 0, announced := false } e
        = { latched := some e, overflow := 0, corrected := 0, announced := false }) ∧
    (atHead s 0x2A k a → ∃ ort : Vector OrtWord 256,
      done .reclaimLost { b with ort := ort } noResults ∧
      ∀ i : BridgeTag, ort.get i = if (b.status i).isLost = true then
        { b.ort.get i with status := .free } else b.ort.get i)

/-- The words of READ-ERROR-LOG, by Table 10-6: the counters in word 12, and words 9 to 11 of the latched location, 0
while nothing is latched. -/
def Sys2Proof.Parts.ErrorLogWords : Prop :=
  ∀ l : ErrorLog, ∃ w9 w10 w11 w12 : Word, l.words = [w9, w10, w11, w12] ∧
    hasField w12 0 8 l.overflow ∧ w12.getLsbD 8 = l.announced ∧ hasField w12 9 7 0 ∧
    hasField w12 16 16 l.corrected ∧
    (l.latched = none → w9 = 0 ∧ w10 = 0 ∧ w11 = 0) ∧
    ∀ x : Latched, l.latched = some x →
      w9.getLsbD 0 = true ∧ hasField w9 2 2 0 ∧ hasField w9 4 4 x.event.code ∧
      hasField w9 8 2 x.slot.val ∧ hasField w9 10 6 0 ∧ hasField w9 25 7 0 ∧ w11 = x.time ∧
      (∀ i : BridgeTag, x.word = .ort i →
        w9.getLsbD 1 = false ∧ hasField w9 16 9 i.val ∧ w10 = 0) ∧
      ∀ (k : RecordId) (f : BitVec 3) (o : BitVec 12), x.word = .shadow k f o →
        w9.getLsbD 1 = true ∧ hasField w9 16 9 k.val ∧ w10.extractLsb' 0 3 = f ∧
        hasField w10 3 13 0 ∧ w10.extractLsb' 16 12 = o ∧ hasField w10 28 4 0

/-- After a change of the slot's list: a replay that waits to send a record it has not taken, with none left at the cursor,
makes the policy test again and ends; nothing else changes. That a replay that is done makes no search of the ORT, as its
slot leaves RESTORING, is the model's choice, which R78 leaves open (log 22). -/
def Sys2Proof.Parts.ReplayRechecked : Prop :=
  ∀ (b : Bridge) (g : Settings) (n : SlotId),
    let ended := fun res : ReplayResult => b.modSlot n fun x => { x with replayResult := some res }
    let barred := (b.slot n).incomplete = true ∧ (g.policy n).shadowPolicy = .fail
    let due := fun r : Replay => (b.slot n).stage = .restoring r ∧
      (∃ t, r.activity = .issueWait t) ∧ r.retryCount = 0 ∧ (b.slot n).shadow.length ≤ r.cursor
    (∀ r, due r → barred → b.replayRecheck g n
      = (ended (.failed .incomplete none r.sent)).attemptFailure g n (some .shadowIncomplete)) ∧
    (∀ r, due r → ¬ barred → b.replayRecheck g n = (ended (.done r.sent)).enterAdmitted g n) ∧
    ((∀ r, ¬ due r) → b.replayRecheck g n = b)

/-- DELETE-SHADOW-RECORD, CLEAR-SHADOW, CLEAR-FAULTS, CLEAR-ALERTS, the error log's commands and RECLAIM-LOST. That a replay
which ends for want of a record makes no search of the ORT is the model's choice, which R78 leaves open (log 22). -/
def Obligations.ClearingCommands : Prop :=
  Parts.ShadowCommands ∧ Parts.ReplayRechecked ∧ Parts.ClearFaultsAndAlerts ∧ Parts.ErrorLogCommands ∧ Parts.ErrorLogWords
end

