-- ==== Sys2Proof/Laws/State.lean ====
section
/-! SUPPORT. What each update of the state leaves in each field: one lemma per field per update, each true by
definition, so that no proof unfolds a record update. -/

namespace Sys2Proof.Machine

open Sys2Proof

variable (b : Bridge)

/-! ### modSlot -/

@[simp] theorem Bridge.modSlot_now (n : SlotId) (f : Slot → Slot) :
    (b.modSlot n f).now = b.now := rfl
@[simp] theorem Bridge.modSlot_upIngress (n : SlotId) (f : Slot → Slot) :
    (b.modSlot n f).upIngress = b.upIngress := rfl
@[simp] theorem Bridge.modSlot_stall (n : SlotId) (f : Slot → Slot) :
    (b.modSlot n f).stall = b.stall := rfl
@[simp] theorem Bridge.modSlot_headAnswer (n : SlotId) (f : Slot → Slot) :
    (b.modSlot n f).headAnswer = b.headAnswer := rfl
@[simp] theorem Bridge.modSlot_ort (n : SlotId) (f : Slot → Slot) :
    (b.modSlot n f).ort = b.ort := rfl
@[simp] theorem Bridge.modSlot_workList (n : SlotId) (f : Slot → Slot) :
    (b.modSlot n f).workList = b.workList := rfl
@[simp] theorem Bridge.modSlot_direct (n : SlotId) (f : Slot → Slot) :
    (b.modSlot n f).direct = b.direct := rfl
@[simp] theorem Bridge.modSlot_slots (n : SlotId) (f : Slot → Slot) :
    (b.modSlot n f).slots = b.slots.set n (f (b.slot n)) := rfl
@[simp] theorem Bridge.modSlot_powerQueue (n : SlotId) (f : Slot → Slot) :
    (b.modSlot n f).powerQueue = b.powerQueue := rfl
@[simp] theorem Bridge.modSlot_inrush (n : SlotId) (f : Slot → Slot) :
    (b.modSlot n f).inrush = b.inrush := rfl
@[simp] theorem Bridge.modSlot_qualQueue (n : SlotId) (f : Slot → Slot) :
    (b.modSlot n f).qualQueue = b.qualQueue := rfl
@[simp] theorem Bridge.modSlot_run (n : SlotId) (f : Slot → Slot) :
    (b.modSlot n f).run = b.run := rfl
@[simp] theorem Bridge.modSlot_shadowWords (n : SlotId) (f : Slot → Slot) :
    (b.modSlot n f).shadowWords = b.shadowWords := rfl
@[simp] theorem Bridge.modSlot_notes (n : SlotId) (f : Slot → Slot) :
    (b.modSlot n f).notes = b.notes := rfl
@[simp] theorem Bridge.modSlot_bridgeQueue (n : SlotId) (f : Slot → Slot) :
    (b.modSlot n f).bridgeQueue = b.bridgeQueue := rfl
@[simp] theorem Bridge.modSlot_pointer (n : SlotId) (f : Slot → Slot) :
    (b.modSlot n f).pointer = b.pointer := rfl
@[simp] theorem Bridge.modSlot_burst (n : SlotId) (f : Slot → Slot) :
    (b.modSlot n f).burst = b.burst := rfl
@[simp] theorem Bridge.modSlot_log (n : SlotId) (f : Slot → Slot) :
    (b.modSlot n f).log = b.log := rfl
@[simp] theorem Bridge.modSlot_partFlags (n : SlotId) (f : Slot → Slot) :
    (b.modSlot n f).partFlags = b.partFlags := rfl
@[simp] theorem Bridge.modSlot_sendList (n : SlotId) (f : Slot → Slot) :
    (b.modSlot n f).sendList = b.sendList := rfl
@[simp] theorem Bridge.modSlot_unrouted (n : SlotId) (f : Slot → Slot) :
    (b.modSlot n f).unrouted = b.unrouted := rfl
@[simp] theorem Bridge.modSlot_unexpected (n : SlotId) (f : Slot → Slot) :
    (b.modSlot n f).unexpected = b.unexpected := rfl
@[simp] theorem Bridge.modSlot_linkOut (n : SlotId) (f : Slot → Slot) :
    (b.modSlot n f).linkOut = b.linkOut := rfl
@[simp] theorem Bridge.modSlot_env (n : SlotId) (f : Slot → Slot) :
    (b.modSlot n f).env = b.env := rfl

/-! ### modFault -/

@[simp] theorem Bridge.modFault_now (n : SlotId) (f : FaultRecord → FaultRecord) :
    (b.modFault n f).now = b.now := rfl
@[simp] theorem Bridge.modFault_upIngress (n : SlotId) (f : FaultRecord → FaultRecord) :
    (b.modFault n f).upIngress = b.upIngress := rfl
@[simp] theorem Bridge.modFault_stall (n : SlotId) (f : FaultRecord → FaultRecord) :
    (b.modFault n f).stall = b.stall := rfl
@[simp] theorem Bridge.modFault_headAnswer (n : SlotId) (f : FaultRecord → FaultRecord) :
    (b.modFault n f).headAnswer = b.headAnswer := rfl
@[simp] theorem Bridge.modFault_ort (n : SlotId) (f : FaultRecord → FaultRecord) :
    (b.modFault n f).ort = b.ort := rfl
@[simp] theorem Bridge.modFault_workList (n : SlotId) (f : FaultRecord → FaultRecord) :
    (b.modFault n f).workList = b.workList := rfl
@[simp] theorem Bridge.modFault_direct (n : SlotId) (f : FaultRecord → FaultRecord) :
    (b.modFault n f).direct = b.direct := rfl
@[simp] theorem Bridge.modFault_powerQueue (n : SlotId) (f : FaultRecord → FaultRecord) :
    (b.modFault n f).powerQueue = b.powerQueue := rfl
@[simp] theorem Bridge.modFault_inrush (n : SlotId) (f : FaultRecord → FaultRecord) :
    (b.modFault n f).inrush = b.inrush := rfl
@[simp] theorem Bridge.modFault_qualQueue (n : SlotId) (f : FaultRecord → FaultRecord) :
    (b.modFault n f).qualQueue = b.qualQueue := rfl
@[simp] theorem Bridge.modFault_run (n : SlotId) (f : FaultRecord → FaultRecord) :
    (b.modFault n f).run = b.run := rfl
@[simp] theorem Bridge.modFault_shadowWords (n : SlotId) (f : FaultRecord → FaultRecord) :
    (b.modFault n f).shadowWords = b.shadowWords := rfl
@[simp] theorem Bridge.modFault_notes (n : SlotId) (f : FaultRecord → FaultRecord) :
    (b.modFault n f).notes = b.notes := rfl
@[simp] theorem Bridge.modFault_bridgeQueue (n : SlotId) (f : FaultRecord → FaultRecord) :
    (b.modFault n f).bridgeQueue = b.bridgeQueue := rfl
@[simp] theorem Bridge.modFault_pointer (n : SlotId) (f : FaultRecord → FaultRecord) :
    (b.modFault n f).pointer = b.pointer := rfl
@[simp] theorem Bridge.modFault_burst (n : SlotId) (f : FaultRecord → FaultRecord) :
    (b.modFault n f).burst = b.burst := rfl
@[simp] theorem Bridge.modFault_log (n : SlotId) (f : FaultRecord → FaultRecord) :
    (b.modFault n f).log = b.log := rfl
@[simp] theorem Bridge.modFault_partFlags (n : SlotId) (f : FaultRecord → FaultRecord) :
    (b.modFault n f).partFlags = b.partFlags := rfl
@[simp] theorem Bridge.modFault_sendList (n : SlotId) (f : FaultRecord → FaultRecord) :
    (b.modFault n f).sendList = b.sendList := rfl
@[simp] theorem Bridge.modFault_unrouted (n : SlotId) (f : FaultRecord → FaultRecord) :
    (b.modFault n f).unrouted = b.unrouted := rfl
@[simp] theorem Bridge.modFault_unexpected (n : SlotId) (f : FaultRecord → FaultRecord) :
    (b.modFault n f).unexpected = b.unexpected := rfl
@[simp] theorem Bridge.modFault_linkOut (n : SlotId) (f : FaultRecord → FaultRecord) :
    (b.modFault n f).linkOut = b.linkOut := rfl
@[simp] theorem Bridge.modFault_env (n : SlotId) (f : FaultRecord → FaultRecord) :
    (b.modFault n f).env = b.env := rfl

/-! ### setStage -/

@[simp] theorem Bridge.setStage_now (n : SlotId) (x : Stage) : (b.setStage n x).now = b.now := rfl
@[simp] theorem Bridge.setStage_upIngress (n : SlotId) (x : Stage) :
    (b.setStage n x).upIngress = b.upIngress := rfl
@[simp] theorem Bridge.setStage_stall (n : SlotId) (x : Stage) :
    (b.setStage n x).stall = b.stall := rfl
@[simp] theorem Bridge.setStage_headAnswer (n : SlotId) (x : Stage) :
    (b.setStage n x).headAnswer = b.headAnswer := rfl
@[simp] theorem Bridge.setStage_ort (n : SlotId) (x : Stage) : (b.setStage n x).ort = b.ort := rfl
@[simp] theorem Bridge.setStage_workList (n : SlotId) (x : Stage) :
    (b.setStage n x).workList = b.workList := rfl
@[simp] theorem Bridge.setStage_direct (n : SlotId) (x : Stage) :
    (b.setStage n x).direct = b.direct := rfl
@[simp] theorem Bridge.setStage_powerQueue (n : SlotId) (x : Stage) :
    (b.setStage n x).powerQueue = b.powerQueue := rfl
@[simp] theorem Bridge.setStage_inrush (n : SlotId) (x : Stage) :
    (b.setStage n x).inrush = b.inrush := rfl
@[simp] theorem Bridge.setStage_qualQueue (n : SlotId) (x : Stage) :
    (b.setStage n x).qualQueue = b.qualQueue := rfl
@[simp] theorem Bridge.setStage_run (n : SlotId) (x : Stage) : (b.setStage n x).run = b.run := rfl
@[simp] theorem Bridge.setStage_shadowWords (n : SlotId) (x : Stage) :
    (b.setStage n x).shadowWords = b.shadowWords := rfl
@[simp] theorem Bridge.setStage_notes (n : SlotId) (x : Stage) :
    (b.setStage n x).notes = b.notes := rfl
@[simp] theorem Bridge.setStage_bridgeQueue (n : SlotId) (x : Stage) :
    (b.setStage n x).bridgeQueue = b.bridgeQueue := rfl
@[simp] theorem Bridge.setStage_pointer (n : SlotId) (x : Stage) :
    (b.setStage n x).pointer = b.pointer := rfl
@[simp] theorem Bridge.setStage_burst (n : SlotId) (x : Stage) :
    (b.setStage n x).burst = b.burst := rfl
@[simp] theorem Bridge.setStage_log (n : SlotId) (x : Stage) : (b.setStage n x).log = b.log := rfl
@[simp] theorem Bridge.setStage_partFlags (n : SlotId) (x : Stage) :
    (b.setStage n x).partFlags = b.partFlags := rfl
@[simp] theorem Bridge.setStage_sendList (n : SlotId) (x : Stage) :
    (b.setStage n x).sendList = b.sendList := rfl
@[simp] theorem Bridge.setStage_unrouted (n : SlotId) (x : Stage) :
    (b.setStage n x).unrouted = b.unrouted := rfl
@[simp] theorem Bridge.setStage_unexpected (n : SlotId) (x : Stage) :
    (b.setStage n x).unexpected = b.unexpected := rfl
@[simp] theorem Bridge.setStage_linkOut (n : SlotId) (x : Stage) :
    (b.setStage n x).linkOut = b.linkOut := rfl
@[simp] theorem Bridge.setStage_env (n : SlotId) (x : Stage) : (b.setStage n x).env = b.env := rfl

/-! ### pwrenOff -/

@[simp] theorem Bridge.pwrenOff_now (n : SlotId) : (b.pwrenOff n).now = b.now := rfl
@[simp] theorem Bridge.pwrenOff_upIngress (n : SlotId) :
    (b.pwrenOff n).upIngress = b.upIngress := rfl
@[simp] theorem Bridge.pwrenOff_stall (n : SlotId) : (b.pwrenOff n).stall = b.stall := rfl
@[simp] theorem Bridge.pwrenOff_headAnswer (n : SlotId) : (b.pwrenOff n).headAnswer = b.headAnswer := rfl
@[simp] theorem Bridge.pwrenOff_ort (n : SlotId) : (b.pwrenOff n).ort = b.ort := rfl
@[simp] theorem Bridge.pwrenOff_workList (n : SlotId) : (b.pwrenOff n).workList = b.workList := rfl
@[simp] theorem Bridge.pwrenOff_direct (n : SlotId) : (b.pwrenOff n).direct = b.direct := rfl
@[simp] theorem Bridge.pwrenOff_powerQueue (n : SlotId) :
    (b.pwrenOff n).powerQueue = b.powerQueue := rfl
@[simp] theorem Bridge.pwrenOff_inrush (n : SlotId) : (b.pwrenOff n).inrush = b.inrush := rfl
@[simp] theorem Bridge.pwrenOff_qualQueue (n : SlotId) :
    (b.pwrenOff n).qualQueue = b.qualQueue := rfl
@[simp] theorem Bridge.pwrenOff_run (n : SlotId) : (b.pwrenOff n).run = b.run := rfl
@[simp] theorem Bridge.pwrenOff_shadowWords (n : SlotId) :
    (b.pwrenOff n).shadowWords = b.shadowWords := rfl
@[simp] theorem Bridge.pwrenOff_notes (n : SlotId) : (b.pwrenOff n).notes = b.notes := rfl
@[simp] theorem Bridge.pwrenOff_bridgeQueue (n : SlotId) :
    (b.pwrenOff n).bridgeQueue = b.bridgeQueue := rfl
@[simp] theorem Bridge.pwrenOff_pointer (n : SlotId) : (b.pwrenOff n).pointer = b.pointer := rfl
@[simp] theorem Bridge.pwrenOff_burst (n : SlotId) : (b.pwrenOff n).burst = b.burst := rfl
@[simp] theorem Bridge.pwrenOff_log (n : SlotId) : (b.pwrenOff n).log = b.log := rfl
@[simp] theorem Bridge.pwrenOff_partFlags (n : SlotId) :
    (b.pwrenOff n).partFlags = b.partFlags := rfl
@[simp] theorem Bridge.pwrenOff_sendList (n : SlotId) : (b.pwrenOff n).sendList = b.sendList := rfl
@[simp] theorem Bridge.pwrenOff_unrouted (n : SlotId) : (b.pwrenOff n).unrouted = b.unrouted := rfl
@[simp] theorem Bridge.pwrenOff_unexpected (n : SlotId) :
    (b.pwrenOff n).unexpected = b.unexpected := rfl
@[simp] theorem Bridge.pwrenOff_linkOut (n : SlotId) : (b.pwrenOff n).linkOut = b.linkOut := rfl
@[simp] theorem Bridge.pwrenOff_env (n : SlotId) : (b.pwrenOff n).env = b.env := rfl

/-! ### pushEgress -/

@[simp] theorem Bridge.pushEgress_now (n : SlotId) (c : EgressClass) (t : Transaction) :
    (b.pushEgress n c t).now = b.now := rfl
@[simp] theorem Bridge.pushEgress_upIngress (n : SlotId) (c : EgressClass) (t : Transaction) :
    (b.pushEgress n c t).upIngress = b.upIngress := rfl
@[simp] theorem Bridge.pushEgress_stall (n : SlotId) (c : EgressClass) (t : Transaction) :
    (b.pushEgress n c t).stall = b.stall := rfl
@[simp] theorem Bridge.pushEgress_headAnswer (n : SlotId) (c : EgressClass) (t : Transaction) :
    (b.pushEgress n c t).headAnswer = b.headAnswer := rfl
@[simp] theorem Bridge.pushEgress_ort (n : SlotId) (c : EgressClass) (t : Transaction) :
    (b.pushEgress n c t).ort = b.ort := rfl
@[simp] theorem Bridge.pushEgress_workList (n : SlotId) (c : EgressClass) (t : Transaction) :
    (b.pushEgress n c t).workList = b.workList := rfl
@[simp] theorem Bridge.pushEgress_direct (n : SlotId) (c : EgressClass) (t : Transaction) :
    (b.pushEgress n c t).direct = b.direct := rfl
@[simp] theorem Bridge.pushEgress_powerQueue (n : SlotId) (c : EgressClass) (t : Transaction) :
    (b.pushEgress n c t).powerQueue = b.powerQueue := rfl
@[simp] theorem Bridge.pushEgress_inrush (n : SlotId) (c : EgressClass) (t : Transaction) :
    (b.pushEgress n c t).inrush = b.inrush := rfl
@[simp] theorem Bridge.pushEgress_qualQueue (n : SlotId) (c : EgressClass) (t : Transaction) :
    (b.pushEgress n c t).qualQueue = b.qualQueue := rfl
@[simp] theorem Bridge.pushEgress_run (n : SlotId) (c : EgressClass) (t : Transaction) :
    (b.pushEgress n c t).run = b.run := rfl
@[simp] theorem Bridge.pushEgress_shadowWords (n : SlotId) (c : EgressClass) (t : Transaction) :
    (b.pushEgress n c t).shadowWords = b.shadowWords := rfl
@[simp] theorem Bridge.pushEgress_notes (n : SlotId) (c : EgressClass) (t : Transaction) :
    (b.pushEgress n c t).notes = b.notes := rfl
@[simp] theorem Bridge.pushEgress_bridgeQueue (n : SlotId) (c : EgressClass) (t : Transaction) :
    (b.pushEgress n c t).bridgeQueue = b.bridgeQueue := rfl
@[simp] theorem Bridge.pushEgress_pointer (n : SlotId) (c : EgressClass) (t : Transaction) :
    (b.pushEgress n c t).pointer = b.pointer := rfl
@[simp] theorem Bridge.pushEgress_burst (n : SlotId) (c : EgressClass) (t : Transaction) :
    (b.pushEgress n c t).burst = b.burst := rfl
@[simp] theorem Bridge.pushEgress_log (n : SlotId) (c : EgressClass) (t : Transaction) :
    (b.pushEgress n c t).log = b.log := rfl
@[simp] theorem Bridge.pushEgress_partFlags (n : SlotId) (c : EgressClass) (t : Transaction) :
    (b.pushEgress n c t).partFlags = b.partFlags := rfl
@[simp] theorem Bridge.pushEgress_sendList (n : SlotId) (c : EgressClass) (t : Transaction) :
    (b.pushEgress n c t).sendList = b.sendList := rfl
@[simp] theorem Bridge.pushEgress_unrouted (n : SlotId) (c : EgressClass) (t : Transaction) :
    (b.pushEgress n c t).unrouted = b.unrouted := rfl
@[simp] theorem Bridge.pushEgress_unexpected (n : SlotId) (c : EgressClass) (t : Transaction) :
    (b.pushEgress n c t).unexpected = b.unexpected := rfl
@[simp] theorem Bridge.pushEgress_linkOut (n : SlotId) (c : EgressClass) (t : Transaction) :
    (b.pushEgress n c t).linkOut = b.linkOut := rfl
@[simp] theorem Bridge.pushEgress_env (n : SlotId) (c : EgressClass) (t : Transaction) :
    (b.pushEgress n c t).env = b.env := rfl

/-! ### pushUpQueue -/

@[simp] theorem Bridge.pushUpQueue_now (n : SlotId) (t : Transaction) :
    (b.pushUpQueue n t).now = b.now := rfl
@[simp] theorem Bridge.pushUpQueue_upIngress (n : SlotId) (t : Transaction) :
    (b.pushUpQueue n t).upIngress = b.upIngress := rfl
@[simp] theorem Bridge.pushUpQueue_stall (n : SlotId) (t : Transaction) :
    (b.pushUpQueue n t).stall = b.stall := rfl
@[simp] theorem Bridge.pushUpQueue_headAnswer (n : SlotId) (t : Transaction) :
    (b.pushUpQueue n t).headAnswer = b.headAnswer := rfl
@[simp] theorem Bridge.pushUpQueue_ort (n : SlotId) (t : Transaction) :
    (b.pushUpQueue n t).ort = b.ort := rfl
@[simp] theorem Bridge.pushUpQueue_workList (n : SlotId) (t : Transaction) :
    (b.pushUpQueue n t).workList = b.workList := rfl
@[simp] theorem Bridge.pushUpQueue_direct (n : SlotId) (t : Transaction) :
    (b.pushUpQueue n t).direct = b.direct := rfl
@[simp] theorem Bridge.pushUpQueue_powerQueue (n : SlotId) (t : Transaction) :
    (b.pushUpQueue n t).powerQueue = b.powerQueue := rfl
@[simp] theorem Bridge.pushUpQueue_inrush (n : SlotId) (t : Transaction) :
    (b.pushUpQueue n t).inrush = b.inrush := rfl
@[simp] theorem Bridge.pushUpQueue_qualQueue (n : SlotId) (t : Transaction) :
    (b.pushUpQueue n t).qualQueue = b.qualQueue := rfl
@[simp] theorem Bridge.pushUpQueue_run (n : SlotId) (t : Transaction) :
    (b.pushUpQueue n t).run = b.run := rfl
@[simp] theorem Bridge.pushUpQueue_shadowWords (n : SlotId) (t : Transaction) :
    (b.pushUpQueue n t).shadowWords = b.shadowWords := rfl
@[simp] theorem Bridge.pushUpQueue_notes (n : SlotId) (t : Transaction) :
    (b.pushUpQueue n t).notes = b.notes := rfl
@[simp] theorem Bridge.pushUpQueue_bridgeQueue (n : SlotId) (t : Transaction) :
    (b.pushUpQueue n t).bridgeQueue = b.bridgeQueue := rfl
@[simp] theorem Bridge.pushUpQueue_pointer (n : SlotId) (t : Transaction) :
    (b.pushUpQueue n t).pointer = b.pointer := rfl
@[simp] theorem Bridge.pushUpQueue_burst (n : SlotId) (t : Transaction) :
    (b.pushUpQueue n t).burst = b.burst := rfl
@[simp] theorem Bridge.pushUpQueue_log (n : SlotId) (t : Transaction) :
    (b.pushUpQueue n t).log = b.log := rfl
@[simp] theorem Bridge.pushUpQueue_partFlags (n : SlotId) (t : Transaction) :
    (b.pushUpQueue n t).partFlags = b.partFlags := rfl
@[simp] theorem Bridge.pushUpQueue_sendList (n : SlotId) (t : Transaction) :
    (b.pushUpQueue n t).sendList = b.sendList := rfl
@[simp] theorem Bridge.pushUpQueue_unrouted (n : SlotId) (t : Transaction) :
    (b.pushUpQueue n t).unrouted = b.unrouted := rfl
@[simp] theorem Bridge.pushUpQueue_unexpected (n : SlotId) (t : Transaction) :
    (b.pushUpQueue n t).unexpected = b.unexpected := rfl
@[simp] theorem Bridge.pushUpQueue_linkOut (n : SlotId) (t : Transaction) :
    (b.pushUpQueue n t).linkOut = b.linkOut := rfl
@[simp] theorem Bridge.pushUpQueue_env (n : SlotId) (t : Transaction) :
    (b.pushUpQueue n t).env = b.env := rfl

/-! ### popCard -/

@[simp] theorem Bridge.popCard_now (n : SlotId) : (b.popCard n).now = b.now := rfl
@[simp] theorem Bridge.popCard_upIngress (n : SlotId) : (b.popCard n).upIngress = b.upIngress := rfl
@[simp] theorem Bridge.popCard_stall (n : SlotId) : (b.popCard n).stall = b.stall := rfl
@[simp] theorem Bridge.popCard_headAnswer (n : SlotId) : (b.popCard n).headAnswer = b.headAnswer := rfl
@[simp] theorem Bridge.popCard_ort (n : SlotId) : (b.popCard n).ort = b.ort := rfl
@[simp] theorem Bridge.popCard_workList (n : SlotId) : (b.popCard n).workList = b.workList := rfl
@[simp] theorem Bridge.popCard_direct (n : SlotId) : (b.popCard n).direct = b.direct := rfl
@[simp] theorem Bridge.popCard_powerQueue (n : SlotId) :
    (b.popCard n).powerQueue = b.powerQueue := rfl
@[simp] theorem Bridge.popCard_inrush (n : SlotId) : (b.popCard n).inrush = b.inrush := rfl
@[simp] theorem Bridge.popCard_qualQueue (n : SlotId) : (b.popCard n).qualQueue = b.qualQueue := rfl
@[simp] theorem Bridge.popCard_run (n : SlotId) : (b.popCard n).run = b.run := rfl
@[simp] theorem Bridge.popCard_shadowWords (n : SlotId) :
    (b.popCard n).shadowWords = b.shadowWords := rfl
@[simp] theorem Bridge.popCard_notes (n : SlotId) : (b.popCard n).notes = b.notes := rfl
@[simp] theorem Bridge.popCard_bridgeQueue (n : SlotId) :
    (b.popCard n).bridgeQueue = b.bridgeQueue := rfl
@[simp] theorem Bridge.popCard_pointer (n : SlotId) : (b.popCard n).pointer = b.pointer := rfl
@[simp] theorem Bridge.popCard_burst (n : SlotId) : (b.popCard n).burst = b.burst := rfl
@[simp] theorem Bridge.popCard_log (n : SlotId) : (b.popCard n).log = b.log := rfl
@[simp] theorem Bridge.popCard_partFlags (n : SlotId) : (b.popCard n).partFlags = b.partFlags := rfl
@[simp] theorem Bridge.popCard_sendList (n : SlotId) : (b.popCard n).sendList = b.sendList := rfl
@[simp] theorem Bridge.popCard_unrouted (n : SlotId) : (b.popCard n).unrouted = b.unrouted := rfl
@[simp] theorem Bridge.popCard_unexpected (n : SlotId) :
    (b.popCard n).unexpected = b.unexpected := rfl
@[simp] theorem Bridge.popCard_linkOut (n : SlotId) : (b.popCard n).linkOut = b.linkOut := rfl
@[simp] theorem Bridge.popCard_env (n : SlotId) : (b.popCard n).env = b.env := rfl

/-! ### pushBridgeQueue -/

@[simp] theorem Bridge.pushBridgeQueue_now (t : Transaction) :
    (b.pushBridgeQueue t).now = b.now := rfl
@[simp] theorem Bridge.pushBridgeQueue_upIngress (t : Transaction) :
    (b.pushBridgeQueue t).upIngress = b.upIngress := rfl
@[simp] theorem Bridge.pushBridgeQueue_stall (t : Transaction) :
    (b.pushBridgeQueue t).stall = b.stall := rfl
@[simp] theorem Bridge.pushBridgeQueue_headAnswer (t : Transaction) :
    (b.pushBridgeQueue t).headAnswer = b.headAnswer := rfl
@[simp] theorem Bridge.pushBridgeQueue_ort (t : Transaction) :
    (b.pushBridgeQueue t).ort = b.ort := rfl
@[simp] theorem Bridge.pushBridgeQueue_workList (t : Transaction) :
    (b.pushBridgeQueue t).workList = b.workList := rfl
@[simp] theorem Bridge.pushBridgeQueue_direct (t : Transaction) :
    (b.pushBridgeQueue t).direct = b.direct := rfl
@[simp] theorem Bridge.pushBridgeQueue_slots (t : Transaction) :
    (b.pushBridgeQueue t).slots = b.slots := rfl
@[simp] theorem Bridge.pushBridgeQueue_powerQueue (t : Transaction) :
    (b.pushBridgeQueue t).powerQueue = b.powerQueue := rfl
@[simp] theorem Bridge.pushBridgeQueue_inrush (t : Transaction) :
    (b.pushBridgeQueue t).inrush = b.inrush := rfl
@[simp] theorem Bridge.pushBridgeQueue_qualQueue (t : Transaction) :
    (b.pushBridgeQueue t).qualQueue = b.qualQueue := rfl
@[simp] theorem Bridge.pushBridgeQueue_run (t : Transaction) :
    (b.pushBridgeQueue t).run = b.run := rfl
@[simp] theorem Bridge.pushBridgeQueue_shadowWords (t : Transaction) :
    (b.pushBridgeQueue t).shadowWords = b.shadowWords := rfl
@[simp] theorem Bridge.pushBridgeQueue_notes (t : Transaction) :
    (b.pushBridgeQueue t).notes = b.notes := rfl
@[simp] theorem Bridge.pushBridgeQueue_bridgeQueue (t : Transaction) :
    (b.pushBridgeQueue t).bridgeQueue = b.bridgeQueue ++ [t] := rfl
@[simp] theorem Bridge.pushBridgeQueue_pointer (t : Transaction) :
    (b.pushBridgeQueue t).pointer = b.pointer := rfl
@[simp] theorem Bridge.pushBridgeQueue_burst (t : Transaction) :
    (b.pushBridgeQueue t).burst = b.burst := rfl
@[simp] theorem Bridge.pushBridgeQueue_log (t : Transaction) :
    (b.pushBridgeQueue t).log = b.log := rfl
@[simp] theorem Bridge.pushBridgeQueue_partFlags (t : Transaction) :
    (b.pushBridgeQueue t).partFlags = b.partFlags := rfl
@[simp] theorem Bridge.pushBridgeQueue_sendList (t : Transaction) :
    (b.pushBridgeQueue t).sendList = b.sendList := rfl
@[simp] theorem Bridge.pushBridgeQueue_unrouted (t : Transaction) :
    (b.pushBridgeQueue t).unrouted = b.unrouted := rfl
@[simp] theorem Bridge.pushBridgeQueue_unexpected (t : Transaction) :
    (b.pushBridgeQueue t).unexpected = b.unexpected := rfl
@[simp] theorem Bridge.pushBridgeQueue_linkOut (t : Transaction) :
    (b.pushBridgeQueue t).linkOut = b.linkOut := rfl
@[simp] theorem Bridge.pushBridgeQueue_env (t : Transaction) :
    (b.pushBridgeQueue t).env = b.env := rfl

/-! ### popUpstream -/

@[simp] theorem Bridge.popUpstream_now : (b.popUpstream).now = b.now := rfl
@[simp] theorem Bridge.popUpstream_upIngress : (b.popUpstream).upIngress = b.upIngress.tail := rfl
@[simp] theorem Bridge.popUpstream_stall : (b.popUpstream).stall = none := rfl
@[simp] theorem Bridge.popUpstream_headAnswer : (b.popUpstream).headAnswer = none := rfl
@[simp] theorem Bridge.popUpstream_ort : (b.popUpstream).ort = b.ort := rfl
@[simp] theorem Bridge.popUpstream_workList : (b.popUpstream).workList = b.workList := rfl
@[simp] theorem Bridge.popUpstream_direct : (b.popUpstream).direct = b.direct := rfl
@[simp] theorem Bridge.popUpstream_slots : (b.popUpstream).slots = b.slots := rfl
@[simp] theorem Bridge.popUpstream_powerQueue : (b.popUpstream).powerQueue = b.powerQueue := rfl
@[simp] theorem Bridge.popUpstream_inrush : (b.popUpstream).inrush = b.inrush := rfl
@[simp] theorem Bridge.popUpstream_qualQueue : (b.popUpstream).qualQueue = b.qualQueue := rfl
@[simp] theorem Bridge.popUpstream_run : (b.popUpstream).run = b.run := rfl
@[simp] theorem Bridge.popUpstream_shadowWords : (b.popUpstream).shadowWords = b.shadowWords := rfl
@[simp] theorem Bridge.popUpstream_notes : (b.popUpstream).notes = b.notes := rfl
@[simp] theorem Bridge.popUpstream_bridgeQueue : (b.popUpstream).bridgeQueue = b.bridgeQueue := rfl
@[simp] theorem Bridge.popUpstream_pointer : (b.popUpstream).pointer = b.pointer := rfl
@[simp] theorem Bridge.popUpstream_burst : (b.popUpstream).burst = b.burst := rfl
@[simp] theorem Bridge.popUpstream_log : (b.popUpstream).log = b.log := rfl
@[simp] theorem Bridge.popUpstream_partFlags : (b.popUpstream).partFlags = b.partFlags := rfl
@[simp] theorem Bridge.popUpstream_sendList : (b.popUpstream).sendList = b.sendList := rfl
@[simp] theorem Bridge.popUpstream_unrouted : (b.popUpstream).unrouted = b.unrouted := rfl
@[simp] theorem Bridge.popUpstream_unexpected : (b.popUpstream).unexpected = b.unexpected := rfl
@[simp] theorem Bridge.popUpstream_linkOut : (b.popUpstream).linkOut = b.linkOut := rfl
@[simp] theorem Bridge.popUpstream_env : (b.popUpstream).env = b.env := rfl

/-! ### countUnrouted -/

@[simp] theorem Bridge.countUnrouted_now : (b.countUnrouted).now = b.now := rfl
@[simp] theorem Bridge.countUnrouted_upIngress : (b.countUnrouted).upIngress = b.upIngress := rfl
@[simp] theorem Bridge.countUnrouted_stall : (b.countUnrouted).stall = b.stall := rfl
@[simp] theorem Bridge.countUnrouted_headAnswer : (b.countUnrouted).headAnswer = b.headAnswer := rfl
@[simp] theorem Bridge.countUnrouted_ort : (b.countUnrouted).ort = b.ort := rfl
@[simp] theorem Bridge.countUnrouted_workList : (b.countUnrouted).workList = b.workList := rfl
@[simp] theorem Bridge.countUnrouted_direct : (b.countUnrouted).direct = b.direct := rfl
@[simp] theorem Bridge.countUnrouted_slots : (b.countUnrouted).slots = b.slots := rfl
@[simp] theorem Bridge.countUnrouted_powerQueue : (b.countUnrouted).powerQueue = b.powerQueue := rfl
@[simp] theorem Bridge.countUnrouted_inrush : (b.countUnrouted).inrush = b.inrush := rfl
@[simp] theorem Bridge.countUnrouted_qualQueue : (b.countUnrouted).qualQueue = b.qualQueue := rfl
@[simp] theorem Bridge.countUnrouted_run : (b.countUnrouted).run = b.run := rfl
@[simp] theorem Bridge.countUnrouted_shadowWords :
    (b.countUnrouted).shadowWords = b.shadowWords := rfl
@[simp] theorem Bridge.countUnrouted_notes : (b.countUnrouted).notes = b.notes := rfl
@[simp] theorem Bridge.countUnrouted_bridgeQueue :
    (b.countUnrouted).bridgeQueue = b.bridgeQueue := rfl
@[simp] theorem Bridge.countUnrouted_pointer : (b.countUnrouted).pointer = b.pointer := rfl
@[simp] theorem Bridge.countUnrouted_burst : (b.countUnrouted).burst = b.burst := rfl
@[simp] theorem Bridge.countUnrouted_log : (b.countUnrouted).log = b.log := rfl
@[simp] theorem Bridge.countUnrouted_partFlags : (b.countUnrouted).partFlags = b.partFlags := rfl
@[simp] theorem Bridge.countUnrouted_sendList : (b.countUnrouted).sendList = b.sendList := rfl
@[simp] theorem Bridge.countUnrouted_unrouted :
    (b.countUnrouted).unrouted = satAdd countTop b.unrouted 1 := rfl
@[simp] theorem Bridge.countUnrouted_unexpected : (b.countUnrouted).unexpected = b.unexpected := rfl
@[simp] theorem Bridge.countUnrouted_linkOut : (b.countUnrouted).linkOut = b.linkOut := rfl
@[simp] theorem Bridge.countUnrouted_env : (b.countUnrouted).env = b.env := rfl

/-! ### setWord -/

@[simp] theorem Bridge.setWord_now (i : BridgeTag) (w : OrtWord) :
    (b.setWord i w).now = b.now := rfl
@[simp] theorem Bridge.setWord_upIngress (i : BridgeTag) (w : OrtWord) :
    (b.setWord i w).upIngress = b.upIngress := rfl
@[simp] theorem Bridge.setWord_stall (i : BridgeTag) (w : OrtWord) :
    (b.setWord i w).stall = b.stall := rfl
@[simp] theorem Bridge.setWord_headAnswer (i : BridgeTag) (w : OrtWord) :
    (b.setWord i w).headAnswer = b.headAnswer := rfl
@[simp] theorem Bridge.setWord_ort (i : BridgeTag) (w : OrtWord) :
    (b.setWord i w).ort = b.ort.set i w := rfl
@[simp] theorem Bridge.setWord_workList (i : BridgeTag) (w : OrtWord) :
    (b.setWord i w).workList = b.workList := rfl
@[simp] theorem Bridge.setWord_direct (i : BridgeTag) (w : OrtWord) :
    (b.setWord i w).direct = b.direct := rfl
@[simp] theorem Bridge.setWord_slots (i : BridgeTag) (w : OrtWord) :
    (b.setWord i w).slots = b.slots := rfl
@[simp] theorem Bridge.setWord_powerQueue (i : BridgeTag) (w : OrtWord) :
    (b.setWord i w).powerQueue = b.powerQueue := rfl
@[simp] theorem Bridge.setWord_inrush (i : BridgeTag) (w : OrtWord) :
    (b.setWord i w).inrush = b.inrush := rfl
@[simp] theorem Bridge.setWord_qualQueue (i : BridgeTag) (w : OrtWord) :
    (b.setWord i w).qualQueue = b.qualQueue := rfl
@[simp] theorem Bridge.setWord_run (i : BridgeTag) (w : OrtWord) :
    (b.setWord i w).run = b.run := rfl
@[simp] theorem Bridge.setWord_shadowWords (i : BridgeTag) (w : OrtWord) :
    (b.setWord i w).shadowWords = b.shadowWords := rfl
@[simp] theorem Bridge.setWord_notes (i : BridgeTag) (w : OrtWord) :
    (b.setWord i w).notes = b.notes := rfl
@[simp] theorem Bridge.setWord_bridgeQueue (i : BridgeTag) (w : OrtWord) :
    (b.setWord i w).bridgeQueue = b.bridgeQueue := rfl
@[simp] theorem Bridge.setWord_pointer (i : BridgeTag) (w : OrtWord) :
    (b.setWord i w).pointer = b.pointer := rfl
@[simp] theorem Bridge.setWord_burst (i : BridgeTag) (w : OrtWord) :
    (b.setWord i w).burst = b.burst := rfl
@[simp] theorem Bridge.setWord_log (i : BridgeTag) (w : OrtWord) :
    (b.setWord i w).log = b.log := rfl
@[simp] theorem Bridge.setWord_partFlags (i : BridgeTag) (w : OrtWord) :
    (b.setWord i w).partFlags = b.partFlags := rfl
@[simp] theorem Bridge.setWord_sendList (i : BridgeTag) (w : OrtWord) :
    (b.setWord i w).sendList = b.sendList := rfl
@[simp] theorem Bridge.setWord_unrouted (i : BridgeTag) (w : OrtWord) :
    (b.setWord i w).unrouted = b.unrouted := rfl
@[simp] theorem Bridge.setWord_unexpected (i : BridgeTag) (w : OrtWord) :
    (b.setWord i w).unexpected = b.unexpected := rfl
@[simp] theorem Bridge.setWord_linkOut (i : BridgeTag) (w : OrtWord) :
    (b.setWord i w).linkOut = b.linkOut := rfl
@[simp] theorem Bridge.setWord_env (i : BridgeTag) (w : OrtWord) :
    (b.setWord i w).env = b.env := rfl

/-! ### putStatus -/

@[simp] theorem Bridge.putStatus_now (i : BridgeTag) (x : EntryStatus) :
    (b.putStatus i x).now = b.now := rfl
@[simp] theorem Bridge.putStatus_upIngress (i : BridgeTag) (x : EntryStatus) :
    (b.putStatus i x).upIngress = b.upIngress := rfl
@[simp] theorem Bridge.putStatus_stall (i : BridgeTag) (x : EntryStatus) :
    (b.putStatus i x).stall = b.stall := rfl
@[simp] theorem Bridge.putStatus_headAnswer (i : BridgeTag) (x : EntryStatus) :
    (b.putStatus i x).headAnswer = b.headAnswer := rfl
@[simp] theorem Bridge.putStatus_ort (i : BridgeTag) (x : EntryStatus) :
    (b.putStatus i x).ort = b.ort.set i { b.ort.get i with status := x, flips := 0 } := rfl
@[simp] theorem Bridge.putStatus_workList (i : BridgeTag) (x : EntryStatus) :
    (b.putStatus i x).workList = b.workList := rfl
@[simp] theorem Bridge.putStatus_direct (i : BridgeTag) (x : EntryStatus) :
    (b.putStatus i x).direct = b.direct := rfl
@[simp] theorem Bridge.putStatus_slots (i : BridgeTag) (x : EntryStatus) :
    (b.putStatus i x).slots = b.slots := rfl
@[simp] theorem Bridge.putStatus_powerQueue (i : BridgeTag) (x : EntryStatus) :
    (b.putStatus i x).powerQueue = b.powerQueue := rfl
@[simp] theorem Bridge.putStatus_inrush (i : BridgeTag) (x : EntryStatus) :
    (b.putStatus i x).inrush = b.inrush := rfl
@[simp] theorem Bridge.putStatus_qualQueue (i : BridgeTag) (x : EntryStatus) :
    (b.putStatus i x).qualQueue = b.qualQueue := rfl
@[simp] theorem Bridge.putStatus_run (i : BridgeTag) (x : EntryStatus) :
    (b.putStatus i x).run = b.run := rfl
@[simp] theorem Bridge.putStatus_shadowWords (i : BridgeTag) (x : EntryStatus) :
    (b.putStatus i x).shadowWords = b.shadowWords := rfl
@[simp] theorem Bridge.putStatus_notes (i : BridgeTag) (x : EntryStatus) :
    (b.putStatus i x).notes = b.notes := rfl
@[simp] theorem Bridge.putStatus_bridgeQueue (i : BridgeTag) (x : EntryStatus) :
    (b.putStatus i x).bridgeQueue = b.bridgeQueue := rfl
@[simp] theorem Bridge.putStatus_pointer (i : BridgeTag) (x : EntryStatus) :
    (b.putStatus i x).pointer = b.pointer := rfl
@[simp] theorem Bridge.putStatus_burst (i : BridgeTag) (x : EntryStatus) :
    (b.putStatus i x).burst = b.burst := rfl
@[simp] theorem Bridge.putStatus_log (i : BridgeTag) (x : EntryStatus) :
    (b.putStatus i x).log = b.log := rfl
@[simp] theorem Bridge.putStatus_partFlags (i : BridgeTag) (x : EntryStatus) :
    (b.putStatus i x).partFlags = b.partFlags := rfl
@[simp] theorem Bridge.putStatus_sendList (i : BridgeTag) (x : EntryStatus) :
    (b.putStatus i x).sendList = b.sendList := rfl
@[simp] theorem Bridge.putStatus_unrouted (i : BridgeTag) (x : EntryStatus) :
    (b.putStatus i x).unrouted = b.unrouted := rfl
@[simp] theorem Bridge.putStatus_unexpected (i : BridgeTag) (x : EntryStatus) :
    (b.putStatus i x).unexpected = b.unexpected := rfl
@[simp] theorem Bridge.putStatus_linkOut (i : BridgeTag) (x : EntryStatus) :
    (b.putStatus i x).linkOut = b.linkOut := rfl
@[simp] theorem Bridge.putStatus_env (i : BridgeTag) (x : EntryStatus) :
    (b.putStatus i x).env = b.env := rfl

/-! ### dropNote -/

@[simp] theorem Bridge.dropNote_now (i : BridgeTag) : (b.dropNote i).now = b.now := rfl
@[simp] theorem Bridge.dropNote_upIngress (i : BridgeTag) :
    (b.dropNote i).upIngress = b.upIngress := rfl
@[simp] theorem Bridge.dropNote_stall (i : BridgeTag) : (b.dropNote i).stall = b.stall := rfl
@[simp] theorem Bridge.dropNote_headAnswer (i : BridgeTag) : (b.dropNote i).headAnswer = b.headAnswer := rfl
@[simp] theorem Bridge.dropNote_ort (i : BridgeTag) : (b.dropNote i).ort = b.ort := rfl
@[simp] theorem Bridge.dropNote_workList (i : BridgeTag) :
    (b.dropNote i).workList = b.workList := rfl
@[simp] theorem Bridge.dropNote_direct (i : BridgeTag) : (b.dropNote i).direct = b.direct := rfl
@[simp] theorem Bridge.dropNote_slots (i : BridgeTag) : (b.dropNote i).slots = b.slots := rfl
@[simp] theorem Bridge.dropNote_powerQueue (i : BridgeTag) :
    (b.dropNote i).powerQueue = b.powerQueue := rfl
@[simp] theorem Bridge.dropNote_inrush (i : BridgeTag) : (b.dropNote i).inrush = b.inrush := rfl
@[simp] theorem Bridge.dropNote_qualQueue (i : BridgeTag) :
    (b.dropNote i).qualQueue = b.qualQueue := rfl
@[simp] theorem Bridge.dropNote_run (i : BridgeTag) : (b.dropNote i).run = b.run := rfl
@[simp] theorem Bridge.dropNote_shadowWords (i : BridgeTag) :
    (b.dropNote i).shadowWords = b.shadowWords := rfl
@[simp] theorem Bridge.dropNote_notes (i : BridgeTag) :
    (b.dropNote i).notes = b.notes.filter fun m => decide (m.tag ≠ i) := rfl
@[simp] theorem Bridge.dropNote_bridgeQueue (i : BridgeTag) :
    (b.dropNote i).bridgeQueue = b.bridgeQueue := rfl
@[simp] theorem Bridge.dropNote_pointer (i : BridgeTag) : (b.dropNote i).pointer = b.pointer := rfl
@[simp] theorem Bridge.dropNote_burst (i : BridgeTag) : (b.dropNote i).burst = b.burst := rfl
@[simp] theorem Bridge.dropNote_log (i : BridgeTag) : (b.dropNote i).log = b.log := rfl
@[simp] theorem Bridge.dropNote_partFlags (i : BridgeTag) :
    (b.dropNote i).partFlags = b.partFlags := rfl
@[simp] theorem Bridge.dropNote_sendList (i : BridgeTag) :
    (b.dropNote i).sendList = b.sendList := rfl
@[simp] theorem Bridge.dropNote_unrouted (i : BridgeTag) :
    (b.dropNote i).unrouted = b.unrouted := rfl
@[simp] theorem Bridge.dropNote_unexpected (i : BridgeTag) :
    (b.dropNote i).unexpected = b.unexpected := rfl
@[simp] theorem Bridge.dropNote_linkOut (i : BridgeTag) : (b.dropNote i).linkOut = b.linkOut := rfl
@[simp] theorem Bridge.dropNote_env (i : BridgeTag) : (b.dropNote i).env = b.env := rfl

/-! ### occupyDirect -/

@[simp] theorem Bridge.occupyDirect_now (r : Request) (a : ReplyTo) (x : StandIn) (k : Option SlotId) :
    (b.occupyDirect r a x k).now = b.now := rfl
@[simp] theorem Bridge.occupyDirect_upIngress (r : Request) (a : ReplyTo) (x : StandIn) (k : Option SlotId) :
    (b.occupyDirect r a x k).upIngress = b.upIngress := rfl
@[simp] theorem Bridge.occupyDirect_stall (r : Request) (a : ReplyTo) (x : StandIn) (k : Option SlotId) :
    (b.occupyDirect r a x k).stall = b.stall := rfl
@[simp] theorem Bridge.occupyDirect_headAnswer (r : Request) (a : ReplyTo) (x : StandIn) (k : Option SlotId) :
    (b.occupyDirect r a x k).headAnswer = b.headAnswer := rfl
@[simp] theorem Bridge.occupyDirect_ort (r : Request) (a : ReplyTo) (x : StandIn) (k : Option SlotId) :
    (b.occupyDirect r a x k).ort = b.ort := rfl
@[simp] theorem Bridge.occupyDirect_workList (r : Request) (a : ReplyTo) (x : StandIn) (k : Option SlotId) :
    (b.occupyDirect r a x k).workList = b.workList := rfl
@[simp] theorem Bridge.occupyDirect_slots (r : Request) (a : ReplyTo) (x : StandIn) (k : Option SlotId) :
    (b.occupyDirect r a x k).slots = b.slots := rfl
@[simp] theorem Bridge.occupyDirect_powerQueue (r : Request) (a : ReplyTo) (x : StandIn) (k : Option SlotId) :
    (b.occupyDirect r a x k).powerQueue = b.powerQueue := rfl
@[simp] theorem Bridge.occupyDirect_inrush (r : Request) (a : ReplyTo) (x : StandIn) (k : Option SlotId) :
    (b.occupyDirect r a x k).inrush = b.inrush := rfl
@[simp] theorem Bridge.occupyDirect_qualQueue (r : Request) (a : ReplyTo) (x : StandIn) (k : Option SlotId) :
    (b.occupyDirect r a x k).qualQueue = b.qualQueue := rfl
@[simp] theorem Bridge.occupyDirect_run (r : Request) (a : ReplyTo) (x : StandIn) (k : Option SlotId) :
    (b.occupyDirect r a x k).run = b.run := rfl
@[simp] theorem Bridge.occupyDirect_shadowWords (r : Request) (a : ReplyTo) (x : StandIn) (k : Option SlotId) :
    (b.occupyDirect r a x k).shadowWords = b.shadowWords := rfl
@[simp] theorem Bridge.occupyDirect_notes (r : Request) (a : ReplyTo) (x : StandIn) (k : Option SlotId) :
    (b.occupyDirect r a x k).notes = b.notes := rfl
@[simp] theorem Bridge.occupyDirect_bridgeQueue (r : Request) (a : ReplyTo) (x : StandIn) (k : Option SlotId) :
    (b.occupyDirect r a x k).bridgeQueue = b.bridgeQueue := rfl
@[simp] theorem Bridge.occupyDirect_pointer (r : Request) (a : ReplyTo) (x : StandIn) (k : Option SlotId) :
    (b.occupyDirect r a x k).pointer = b.pointer := rfl
@[simp] theorem Bridge.occupyDirect_burst (r : Request) (a : ReplyTo) (x : StandIn) (k : Option SlotId) :
    (b.occupyDirect r a x k).burst = b.burst := rfl
@[simp] theorem Bridge.occupyDirect_log (r : Request) (a : ReplyTo) (x : StandIn) (k : Option SlotId) :
    (b.occupyDirect r a x k).log = b.log := rfl
@[simp] theorem Bridge.occupyDirect_partFlags (r : Request) (a : ReplyTo) (x : StandIn) (k : Option SlotId) :
    (b.occupyDirect r a x k).partFlags = b.partFlags := rfl
@[simp] theorem Bridge.occupyDirect_sendList (r : Request) (a : ReplyTo) (x : StandIn) (k : Option SlotId) :
    (b.occupyDirect r a x k).sendList = b.sendList := rfl
@[simp] theorem Bridge.occupyDirect_unrouted (r : Request) (a : ReplyTo) (x : StandIn) (k : Option SlotId) :
    (b.occupyDirect r a x k).unrouted = b.unrouted := rfl
@[simp] theorem Bridge.occupyDirect_unexpected (r : Request) (a : ReplyTo) (x : StandIn) (k : Option SlotId) :
    (b.occupyDirect r a x k).unexpected = b.unexpected := rfl
@[simp] theorem Bridge.occupyDirect_linkOut (r : Request) (a : ReplyTo) (x : StandIn) (k : Option SlotId) :
    (b.occupyDirect r a x k).linkOut = b.linkOut := rfl
@[simp] theorem Bridge.occupyDirect_env (r : Request) (a : ReplyTo) (x : StandIn) (k : Option SlotId) :
    (b.occupyDirect r a x k).env = b.env := rfl

/-! ### drawSearch -/

@[simp] theorem Bridge.drawSearch_now : (b.drawSearch).now = b.now := rfl
@[simp] theorem Bridge.drawSearch_upIngress : (b.drawSearch).upIngress = b.upIngress := rfl
@[simp] theorem Bridge.drawSearch_stall : (b.drawSearch).stall = b.stall := rfl
@[simp] theorem Bridge.drawSearch_headAnswer : (b.drawSearch).headAnswer = b.headAnswer := rfl
@[simp] theorem Bridge.drawSearch_ort : (b.drawSearch).ort = b.ort := rfl
@[simp] theorem Bridge.drawSearch_workList : (b.drawSearch).workList = b.workList := rfl
@[simp] theorem Bridge.drawSearch_direct : (b.drawSearch).direct = b.direct := rfl
@[simp] theorem Bridge.drawSearch_slots : (b.drawSearch).slots = b.slots := rfl
@[simp] theorem Bridge.drawSearch_powerQueue : (b.drawSearch).powerQueue = b.powerQueue := rfl
@[simp] theorem Bridge.drawSearch_inrush : (b.drawSearch).inrush = b.inrush := rfl
@[simp] theorem Bridge.drawSearch_qualQueue : (b.drawSearch).qualQueue = b.qualQueue := rfl
@[simp] theorem Bridge.drawSearch_run : (b.drawSearch).run = b.run := rfl
@[simp] theorem Bridge.drawSearch_shadowWords : (b.drawSearch).shadowWords = b.shadowWords := rfl
@[simp] theorem Bridge.drawSearch_notes : (b.drawSearch).notes = b.notes := rfl
@[simp] theorem Bridge.drawSearch_bridgeQueue : (b.drawSearch).bridgeQueue = b.bridgeQueue := rfl
@[simp] theorem Bridge.drawSearch_pointer : (b.drawSearch).pointer = b.pointer := rfl
@[simp] theorem Bridge.drawSearch_burst : (b.drawSearch).burst = b.burst := rfl
@[simp] theorem Bridge.drawSearch_log : (b.drawSearch).log = b.log := rfl
@[simp] theorem Bridge.drawSearch_partFlags : (b.drawSearch).partFlags = b.partFlags := rfl
@[simp] theorem Bridge.drawSearch_sendList : (b.drawSearch).sendList = b.sendList := rfl
@[simp] theorem Bridge.drawSearch_unrouted : (b.drawSearch).unrouted = b.unrouted := rfl
@[simp] theorem Bridge.drawSearch_unexpected : (b.drawSearch).unexpected = b.unexpected := rfl
@[simp] theorem Bridge.drawSearch_linkOut : (b.drawSearch).linkOut = b.linkOut := rfl
@[simp] theorem Bridge.drawSearch_env :
    (b.drawSearch).env = { b.env with searchFirst := b.env.searchFirst.tail } := rfl

end Sys2Proof.Machine
end

