-- ==== Sys2Proof/Laws/Slots.lean ====
section
/-! SUPPORT. Reading a part after it, or another part, was changed: slots, settings of slots, and words of the
ORT and the shadow. -/

namespace Sys2Proof.Machine

open Sys2Proof

/-! ### Vectors -/

@[simp] theorem get_set_self {α : Type} {k : Nat} (v : Vector α k) (i : Fin k) (x : α) :
    (v.set i x).get i = x := by
  have h : (v.set i x).get i = (v.set i x)[i.val] := rfl
  rw [h, Vector.getElem_set_self]

theorem get_set_ne {α : Type} {k : Nat} (v : Vector α k) {i j : Fin k} (x : α) (h : j ≠ i) :
    (v.set i x).get j = v.get j := by
  have h' : (i : Nat) ≠ j := fun e => h (Fin.ext e.symm)
  have e : (v.set i x).get j = (v.set i x)[j.val] := rfl
  rw [e, Vector.getElem_set_ne _ _ h']
  rfl

/-! ### Slots of the bridge -/

@[simp] theorem Bridge.slot_modSlot_self (b : Bridge) (n : SlotId) (f : Slot → Slot) :
    (b.modSlot n f).slot n = f (b.slot n) := by
  exact get_set_self _ _ _

theorem Bridge.slot_modSlot_ne (b : Bridge) {m n : SlotId} (f : Slot → Slot) (h : m ≠ n) :
    (b.modSlot n f).slot m = b.slot m := by
  exact get_set_ne _ _ h

theorem Bridge.slot_modSlot (b : Bridge) (m n : SlotId) (f : Slot → Slot) :
    (b.modSlot n f).slot m = if m = n then f (b.slot n) else b.slot m := by
  by_cases h : m = n
  · subst h; simp
  · simp [h, Bridge.slot_modSlot_ne]

/-- Two changes of one slot are one. -/
theorem Bridge.modSlot_modSlot (b : Bridge) (n : SlotId) (f h : Slot → Slot) :
    (b.modSlot n f).modSlot n h = b.modSlot n fun s => h (f s) := by
  have e := b.slot_modSlot_self n f
  unfold Bridge.modSlot at e ⊢
  rw [e]
  simp

/-- Two bridges with the same slots have the same slot. -/
theorem Bridge.slot_congr {b c : Bridge} (h : b.slots = c.slots) (n : SlotId) : b.slot n = c.slot n := by
  simp [Bridge.slot, h]

@[simp] theorem Bridge.slot_popUpstream (b : Bridge) (n : SlotId) : b.popUpstream.slot n = b.slot n := rfl

@[simp] theorem Bridge.slot_countUnrouted (b : Bridge) (n : SlotId) :
    b.countUnrouted.slot n = b.slot n := rfl

@[simp] theorem Bridge.slot_pushBridgeQueue (b : Bridge) (t : Transaction) (n : SlotId) :
    (b.pushBridgeQueue t).slot n = b.slot n := rfl

@[simp] theorem Bridge.slot_setWord (b : Bridge) (i : BridgeTag) (w : OrtWord) (n : SlotId) :
    (b.setWord i w).slot n = b.slot n := rfl

@[simp] theorem Bridge.slot_putStatus (b : Bridge) (i : BridgeTag) (x : EntryStatus) (n : SlotId) :
    (b.putStatus i x).slot n = b.slot n := rfl

@[simp] theorem Bridge.slot_allocate (b : Bridge) (i : BridgeTag) (a : SlotId) (r : EntryRecord)
    (n : SlotId) : (b.allocate i a r).slot n = b.slot n := rfl

@[simp] theorem Bridge.slot_dropNote (b : Bridge) (i : BridgeTag) (n : SlotId) :
    (b.dropNote i).slot n = b.slot n := rfl

@[simp] theorem Bridge.slot_freeEntry (b : Bridge) (i : BridgeTag) (n : SlotId) :
    (b.freeEntry i).slot n = b.slot n := rfl

@[simp] theorem Bridge.slot_drawSearch (b : Bridge) (n : SlotId) : b.drawSearch.slot n = b.slot n := rfl

@[simp] theorem Bridge.slot_occupyDirect (b : Bridge) (r : Request) (a : ReplyTo) (x : StandIn)
    (k : Option SlotId) (n : SlotId) : (b.occupyDirect r a x k).slot n = b.slot n := rfl

/-! ### Settings of a slot -/

@[simp] theorem Settings.slot_modSlot_self (g : Settings) (n : SlotId)
    (f : SlotSettings → SlotSettings) : (g.modSlot n f).slot n = f (g.slot n) := by
  exact get_set_self _ _ _

theorem Settings.slot_modSlot_ne (g : Settings) {m n : SlotId} (f : SlotSettings → SlotSettings)
    (h : m ≠ n) : (g.modSlot n f).slot m = g.slot m := by
  exact get_set_ne _ _ h

theorem Settings.slot_modSlot (g : Settings) (m n : SlotId) (f : SlotSettings → SlotSettings) :
    (g.modSlot n f).slot m = if m = n then f (g.slot n) else g.slot m := by
  by_cases h : m = n
  · subst h; simp
  · simp [h, Settings.slot_modSlot_ne]

@[simp] theorem Settings.header_modSlot (g : Settings) (n : SlotId) (f : SlotSettings → SlotSettings) :
    (g.modSlot n f).header = g.header := rfl

@[simp] theorem Settings.windows_modSlot (g : Settings) (n : SlotId) (f : SlotSettings → SlotSettings) :
    (g.modSlot n f).windows = g.windows := rfl

@[simp] theorem Settings.part_modSlot (g : Settings) (n : SlotId) (f : SlotSettings → SlotSettings) :
    (g.modSlot n f).part = g.part := rfl

@[simp] theorem Settings.alert_modSlot (g : Settings) (n : SlotId) (f : SlotSettings → SlotSettings) :
    (g.modSlot n f).alert = g.alert := rfl

/-! ### Words of the ORT -/

@[simp] theorem Bridge.ort_setWord_self (b : Bridge) (i : BridgeTag) (w : OrtWord) :
    (b.setWord i w).ort.get i = w := by
  exact get_set_self _ _ _

theorem Bridge.ort_setWord_ne (b : Bridge) {i j : BridgeTag} (w : OrtWord) (h : j ≠ i) :
    (b.setWord i w).ort.get j = b.ort.get j := by
  exact get_set_ne _ _ h

@[simp] theorem Bridge.status_putStatus_self (b : Bridge) (i : BridgeTag) (x : EntryStatus) :
    (b.putStatus i x).status i = x := by
  rw [Bridge.status, Bridge.putStatus, Bridge.ort_setWord_self]

theorem Bridge.status_putStatus_ne (b : Bridge) {i j : BridgeTag} (x : EntryStatus) (h : j ≠ i) :
    (b.putStatus i x).status j = b.status j := by
  simp only [Bridge.status, Bridge.putStatus]
  rw [Bridge.ort_setWord_ne b _ h]

@[simp] theorem Bridge.status_allocate_self (b : Bridge) (i : BridgeTag) (a : SlotId)
    (r : EntryRecord) : (b.allocate i a r).status i = .inUse a r := by
  simp [Bridge.allocate]

@[simp] theorem Bridge.status_freeEntry_self (b : Bridge) (i : BridgeTag) :
    (b.freeEntry i).status i = .free :=
  Bridge.status_putStatus_self b i .free

theorem Bridge.status_freeEntry_ne (b : Bridge) {i j : BridgeTag} (h : j ≠ i) :
    (b.freeEntry i).status j = b.status j :=
  Bridge.status_putStatus_ne b .free h

@[simp] theorem Bridge.status_modSlot (b : Bridge) (n : SlotId) (f : Slot → Slot) (i : BridgeTag) :
    (b.modSlot n f).status i = b.status i := rfl

/-! ### Cells -/

@[simp] theorem Mgmt.cells_setCell_self (m : Mgmt) (k : CellId) (c : Cell) :
    (m.setCell k c).cells.get k = c := by
  exact get_set_self _ _ _

theorem Mgmt.cells_setCell_ne (m : Mgmt) {j k : CellId} (c : Cell) (h : j ≠ k) :
    (m.setCell k c).cells.get j = m.cells.get j := by
  exact get_set_ne _ _ h

end Sys2Proof.Machine
end

