-- ==== Sys2Proof/Laws/Acts.lean ====
section
/-! SUPPORT. What a command can do to the whole state, said once for each of the shared forms: an act on the
bridge, the processing of the head cell, the settling at the end of a step, and a step itself. -/

namespace Sys2Proof.Machine

open Sys2Proof

/-! ### Acts on the bridge -/

theorem State.act_eq (s : State) (f : Bridge → Settings → Bridge) :
    s.act f = .next { s with bridge := f s.bridge s.settings } := rfl

theorem State.actSettled_eq (s : State) (f : Bridge → Settings → Bridge) :
    s.actSettled f = .next { s with bridge := (f s.bridge s.settings).settle s.settings } := rfl

/-- An act changes the bridge alone. -/
theorem State.act_next {s t : State} {f : Bridge → Settings → Bridge} (h : s.act f = .next t) :
    t = { s with bridge := f s.bridge s.settings } := by
  cases h; rfl

theorem State.actSettled_next {s t : State} {f : Bridge → Settings → Bridge}
    (h : s.actSettled f = .next t) :
    t = { s with bridge := (f s.bridge s.settings).settle s.settings } := by
  cases h; rfl

/-! ### Settling -/

/-- A settled bridge has nothing left to settle. -/
theorem Bridge.settleOne_of_settled {b : Bridge} (g : Settings) (h : b.settled = true) :
    b.settleOne g = b := by
  unfold Bridge.settled at h
  simp only [Bool.and_eq_true, Option.isNone_iff_eq_none, Bool.or_eq_true] at h
  obtain ⟨⟨h1, h2⟩, h3⟩ := h
  unfold Bridge.settleOne
  rw [h1, h2]
  rcases hr : b.run with _ | r
  · rcases hq : b.qualQueue with _ | ⟨n, rest⟩
    · simp
    · simp [hr, hq] at h3
  · simp

theorem Bridge.settleRounds_of_settled {b : Bridge} (g : Settings) (h : b.settled = true) (k : Nat) :
    Bridge.settleRounds g k b = b := by
  induction k with
  | zero => rfl
  | succ k ih => rw [Bridge.settleRounds, Bridge.settleOne_of_settled g h, ih]

theorem Bridge.settle_of_settled {b : Bridge} (g : Settings) (h : b.settled = true) :
    b.settle g = b :=
  Bridge.settleRounds_of_settled g h _

/-- What one round of settling keeps, settling keeps. -/
theorem Bridge.settle_keeps {P : Bridge → Prop} (g : Settings)
    (one : ∀ b, P b → P (b.settleOne g)) {b : Bridge} (h : P b) : P (b.settle g) := by
  unfold Bridge.settle
  generalize b.qualQueue.length + 5 = k
  induction k generalizing b with
  | zero => exact h
  | succ k ih => exact ih (one b h)

/-- One round of settling is one of these: an engine told of a lost tag, a replay told of one, a run begun, or
nothing. -/
theorem Bridge.settleOne_cases (b : Bridge) (g : Settings) :
    (∃ i, b.settleOne g = b.scriptExpired g i) ∨ (∃ n, b.settleOne g = b.replayExpired g n) ∨
      (∃ n rest, b.run = none ∧ b.qualQueue = n :: rest ∧ b.settleOne g = b.startRun g n rest) ∨
        b.settleOne g = b := by
  unfold Bridge.settleOne
  rcases b.engineLostTag with _ | i
  · rcases allSlots.find? b.replayLost with _ | n
    · rcases hr : b.run with _ | r
      · rcases hq : b.qualQueue with _ | ⟨n, rest⟩
        · simp
        · exact .inr (.inr (.inl ⟨n, rest, rfl, rfl, rfl⟩))
      · simp
    · exact .inr (.inl ⟨n, rfl⟩)
  · exact .inl ⟨i, rfl⟩

/-! ### The processing of the head cell -/

/-- A command at the head is answered. -/
theorem State.process_head {s : State} {k : CellId} {a : Vector Word 8} {op : Nat}
    {command : Vector Word 8 → Settings → Bridge → Answer} (h : s.mgmt.headCell = some (k, a))
    (hop : opcodeOf a = op) :
    s.process op command = .next (s.finish k a (command a s.settings s.bridge)) := by
  simp [State.process, h, hop]

/-- Processing answers the head cell, or changes nothing. -/
theorem State.process_next {s t : State} {op : Nat}
    {command : Vector Word 8 → Settings → Bridge → Answer} (h : s.process op command = .next t) :
    t = s ∨ ∃ k a, s.mgmt.headCell = some (k, a) ∧ opcodeOf a = op ∧
      t = s.finish k a (command a s.settings s.bridge) := by
  unfold State.process at h
  split at h
  · rename_i k a hk
    split at h
    · rename_i hop
      exact .inr ⟨k, a, hk, hop, by cases h; rfl⟩
    · exact .inl (by cases h; rfl)
  · exact .inl (by cases h; rfl)

theorem Mgmt.headCell_eq {m : Mgmt} {k : CellId} {a : Vector Word 8} (h : m.headCell = some (k, a)) :
    ∃ rest, m.queue = k :: rest ∧ (m.cells.get k).state = .inProgress a := by
  unfold Mgmt.headCell at h
  split at h
  · cases h
  · rename_i j rest hq
    split at h
    · rename_i b hb
      cases h
      exact ⟨rest, hq, hb⟩
    · cases h
    · cases h

@[simp] theorem State.finish_pending (s : State) (k : CellId) (a : Vector Word 8) (x : Answer) :
    (s.finish k a x).pending = s.pending := by
  cases x <;> rfl

@[simp] theorem State.finish_queue (s : State) (k : CellId) (a : Vector Word 8) (x : Answer) :
    (s.finish k a x).mgmt.queue = s.mgmt.queue.tail := by
  cases x <;> rfl

@[simp] theorem State.finish_collisions (s : State) (k : CellId) (a : Vector Word 8) (x : Answer) :
    (s.finish k a x).mgmt.collisions = s.mgmt.collisions := by
  cases x <;> rfl

/-- The cells other than the head are not touched. -/
theorem State.finish_cells_ne (s : State) {j k : CellId} (a : Vector Word 8) (x : Answer)
    (h : j ≠ k) : (s.finish k a x).mgmt.cells.get j = s.mgmt.cells.get j := by
  cases x <;> exact Mgmt.cells_setCell_ne _ _ h

/-- The head cell is DONE and echoes its tag. -/
theorem State.finish_cell (s : State) (k : CellId) (a : Vector Word 8) (x : Answer) :
    ((s.finish k a x).mgmt.cells.get k).state = .done ∧
      ((s.finish k a x).mgmt.cells.get k).echo = tagField a ∧
      ((s.finish k a x).mgmt.cells.get k).request = (s.mgmt.cells.get k).request := by
  cases x <;> simp [State.finish, Mgmt.complete]

/-- A refused command changes the cells alone. -/
theorem State.finish_refused (s : State) (k : CellId) (a : Vector Word 8) (st : CmdStatus) :
    (s.finish k a (.refused st)).settings = s.settings ∧
      (s.finish k a (.refused st)).bridge = s.bridge := ⟨rfl, rfl⟩

/-! ### The head's config answer and the requester ID of what is sent -/

/-- The answer kept for the head is all that changes. -/
theorem Bridge.keepHeadAnswer_frame (b : Bridge) (n : SlotId) (old : SlotPolicy) :
    ∃ x, b.keepHeadAnswer n old = { b with headAnswer := x } := by
  unfold Bridge.keepHeadAnswer
  split
  · split
    · exact ⟨_, rfl⟩
    · exact ⟨b.headAnswer, rfl⟩
  · exact ⟨b.headAnswer, rfl⟩

@[simp] theorem Bridge.keepHeadAnswer_slot (b : Bridge) (n : SlotId) (old : SlotPolicy) (m : SlotId) :
    (b.keepHeadAnswer n old).slot m = b.slot m := by
  obtain ⟨_, e⟩ := b.keepHeadAnswer_frame n old
  rw [e]; rfl

/-- A change of the policies leaves the config answer of a request at the head as it was (spec/01, R14). -/
theorem Bridge.headConfig_keepHeadAnswer {b : Bridge} {r : Request} {n : SlotId}
    {answer : Option FenceAnswer} (g g' : Settings) (h : b.hostHead = some (r, .slot n answer)) :
    (b.keepHeadAnswer n (g.policy n)).headConfig g' n = b.headConfig g n := by
  simp [Bridge.keepHeadAnswer, h, Bridge.headConfig]

/-- The config answer of a request that has just come to the head is the slot's. -/
theorem Bridge.headConfig_popUpstream (b : Bridge) (g : Settings) (n : SlotId) :
    b.popUpstream.headConfig g n = (g.policy n).configAnswer := rfl

/-- A posted request is sent with its fields unchanged. -/
theorem Transaction.sentUnder_of_posted {r : Request} (g : Settings) (h : ReqBody.posted r.body = true) :
    Transaction.sentUnder (.request r) g = .request r := by
  simp [Transaction.sentUnder, h]

/-- A non-posted request is sent under the bridge's requester ID. -/
theorem Transaction.sentUnder_of_not_posted {r : Request} (g : Settings)
    (h : ReqBody.posted r.body = false) :
    Transaction.sentUnder (.request r) g = .request { r with id := g.bridgeId } := by
  simp [Transaction.sentUnder, h, Request.fromBridge]

@[simp] theorem Transaction.sentUnder_completion (c : Completion) (g : Settings) :
    Transaction.sentUnder (.completion c) g = .completion c := rfl

@[simp] theorem Transaction.ownSent_request (r : Request) (g : Settings) :
    Transaction.ownSent (.request r) g = .request { r with id := g.bridgeId } := rfl

@[simp] theorem Transaction.ownSent_completion (c : Completion) (g : Settings) :
    Transaction.ownSent (.completion c) g = .completion c := rfl

/-! ### A step -/

theorem step_front {s : State} {c : Instr} {rest : List Instr} (h : s.pending = c :: rest) :
    step s = exec c { s with pending := rest } := by
  simp [step, h]

theorem step_idle {s : State} (h : s.pending = []) : step s = .next s.idle := by
  simp [step, h]

end Sys2Proof.Machine
end

