-- ==== Sys2Proof/Laws/Ort.lean ====
section
/-! SUPPORT. What raising an alert, reading a protected record and releasing an entry can do, said once. -/

namespace Sys2Proof.Machine

open Sys2Proof

/-! ### Raising an alert (spec/08, R171, R173) -/

/-- A raised kind whose flag is set changes nothing. -/
theorem Bridge.raise_of_set {b : Bridge} {g : Settings} {p : AlertPair} (h : b.flagSet p = true) :
    b.raise g p = b := by
  simp [Bridge.raise, h]

/-- Raising an alert changes the flags and the send list alone: the bridge is otherwise as it was. -/
theorem Bridge.raise_frame (b : Bridge) (g : Settings) (p : AlertPair) :
    ∃ slots partFlags sendList,
      b.raise g p = { b with slots := slots, partFlags := partFlags, sendList := sendList } := by
  unfold Bridge.raise Bridge.oweWrite
  split
  · exact ⟨b.slots, b.partFlags, b.sendList, rfl⟩
  · split
    · cases p <;> exact ⟨_, _, _, rfl⟩
    · cases p <;> exact ⟨_, _, _, rfl⟩

/-- In each slot raising an alert changes the flags alone. -/
theorem Bridge.raise_slot (b : Bridge) (g : Settings) (p : AlertPair) (n : SlotId) :
    ∃ flags, (b.raise g p).slot n = { b.slot n with flags := flags } := by
  have key : ∀ c : Bridge, c.slots = (b.setFlag p).slots →
      ∃ flags, c.slot n = { b.slot n with flags := flags } := by
    intro c hc
    rw [Bridge.slot_congr hc]
    cases p with
    | part k => exact ⟨(b.slot n).flags, rfl⟩
    | slot m k =>
      by_cases h : n = m
      · subst h
        exact ⟨_, Bridge.slot_modSlot_self _ _ _⟩
      · exact ⟨(b.slot n).flags, Bridge.slot_modSlot_ne _ _ h⟩
  unfold Bridge.raise Bridge.oweWrite
  split
  · exact ⟨(b.slot n).flags, rfl⟩
  · split
    · exact key _ rfl
    · exact key _ rfl

@[simp] theorem Bridge.raise_now (b : Bridge) (g : Settings) (p : AlertPair) :
    (b.raise g p).now = b.now := by
  obtain ⟨_, _, _, e⟩ := b.raise_frame g p
  rw [e]

@[simp] theorem Bridge.raise_upIngress (b : Bridge) (g : Settings) (p : AlertPair) :
    (b.raise g p).upIngress = b.upIngress := by
  obtain ⟨_, _, _, e⟩ := b.raise_frame g p
  rw [e]

@[simp] theorem Bridge.raise_stall (b : Bridge) (g : Settings) (p : AlertPair) :
    (b.raise g p).stall = b.stall := by
  obtain ⟨_, _, _, e⟩ := b.raise_frame g p
  rw [e]

@[simp] theorem Bridge.raise_headAnswer (b : Bridge) (g : Settings) (p : AlertPair) :
    (b.raise g p).headAnswer = b.headAnswer := by
  obtain ⟨_, _, _, e⟩ := b.raise_frame g p
  rw [e]

@[simp] theorem Bridge.raise_ort (b : Bridge) (g : Settings) (p : AlertPair) :
    (b.raise g p).ort = b.ort := by
  obtain ⟨_, _, _, e⟩ := b.raise_frame g p
  rw [e]

@[simp] theorem Bridge.raise_workList (b : Bridge) (g : Settings) (p : AlertPair) :
    (b.raise g p).workList = b.workList := by
  obtain ⟨_, _, _, e⟩ := b.raise_frame g p
  rw [e]

@[simp] theorem Bridge.raise_direct (b : Bridge) (g : Settings) (p : AlertPair) :
    (b.raise g p).direct = b.direct := by
  obtain ⟨_, _, _, e⟩ := b.raise_frame g p
  rw [e]

@[simp] theorem Bridge.raise_powerQueue (b : Bridge) (g : Settings) (p : AlertPair) :
    (b.raise g p).powerQueue = b.powerQueue := by
  obtain ⟨_, _, _, e⟩ := b.raise_frame g p
  rw [e]

@[simp] theorem Bridge.raise_inrush (b : Bridge) (g : Settings) (p : AlertPair) :
    (b.raise g p).inrush = b.inrush := by
  obtain ⟨_, _, _, e⟩ := b.raise_frame g p
  rw [e]

@[simp] theorem Bridge.raise_qualQueue (b : Bridge) (g : Settings) (p : AlertPair) :
    (b.raise g p).qualQueue = b.qualQueue := by
  obtain ⟨_, _, _, e⟩ := b.raise_frame g p
  rw [e]

@[simp] theorem Bridge.raise_run (b : Bridge) (g : Settings) (p : AlertPair) :
    (b.raise g p).run = b.run := by
  obtain ⟨_, _, _, e⟩ := b.raise_frame g p
  rw [e]

@[simp] theorem Bridge.raise_shadowWords (b : Bridge) (g : Settings) (p : AlertPair) :
    (b.raise g p).shadowWords = b.shadowWords := by
  obtain ⟨_, _, _, e⟩ := b.raise_frame g p
  rw [e]

@[simp] theorem Bridge.raise_notes (b : Bridge) (g : Settings) (p : AlertPair) :
    (b.raise g p).notes = b.notes := by
  obtain ⟨_, _, _, e⟩ := b.raise_frame g p
  rw [e]

@[simp] theorem Bridge.raise_bridgeQueue (b : Bridge) (g : Settings) (p : AlertPair) :
    (b.raise g p).bridgeQueue = b.bridgeQueue := by
  obtain ⟨_, _, _, e⟩ := b.raise_frame g p
  rw [e]

@[simp] theorem Bridge.raise_pointer (b : Bridge) (g : Settings) (p : AlertPair) :
    (b.raise g p).pointer = b.pointer := by
  obtain ⟨_, _, _, e⟩ := b.raise_frame g p
  rw [e]

@[simp] theorem Bridge.raise_burst (b : Bridge) (g : Settings) (p : AlertPair) :
    (b.raise g p).burst = b.burst := by
  obtain ⟨_, _, _, e⟩ := b.raise_frame g p
  rw [e]

@[simp] theorem Bridge.raise_log (b : Bridge) (g : Settings) (p : AlertPair) :
    (b.raise g p).log = b.log := by
  obtain ⟨_, _, _, e⟩ := b.raise_frame g p
  rw [e]

@[simp] theorem Bridge.raise_unrouted (b : Bridge) (g : Settings) (p : AlertPair) :
    (b.raise g p).unrouted = b.unrouted := by
  obtain ⟨_, _, _, e⟩ := b.raise_frame g p
  rw [e]

@[simp] theorem Bridge.raise_unexpected (b : Bridge) (g : Settings) (p : AlertPair) :
    (b.raise g p).unexpected = b.unexpected := by
  obtain ⟨_, _, _, e⟩ := b.raise_frame g p
  rw [e]

@[simp] theorem Bridge.raise_linkOut (b : Bridge) (g : Settings) (p : AlertPair) :
    (b.raise g p).linkOut = b.linkOut := by
  obtain ⟨_, _, _, e⟩ := b.raise_frame g p
  rw [e]

@[simp] theorem Bridge.raise_env (b : Bridge) (g : Settings) (p : AlertPair) :
    (b.raise g p).env = b.env := by
  obtain ⟨_, _, _, e⟩ := b.raise_frame g p
  rw [e]

@[simp] theorem Bridge.raise_status (b : Bridge) (g : Settings) (p : AlertPair) (i : BridgeTag) :
    (b.raise g p).status i = b.status i := by
  simp [Bridge.status]

/-! ### Protected reads (spec/09, R177 to R179) -/

theorem Bridge.readEntry_clean {b : Bridge} {g : Settings} {i : BridgeTag} {e : ReadEvent}
    {a : SlotId} {r : EntryRecord} (h : b.status i = .inUse a r)
    (hc : (b.ort.get i).outcome = .clean) : b.readEntry g i e = (b, some r) := by
  simp [Bridge.readEntry, h, hc]

theorem Bridge.readEntry_corrected {b : Bridge} {g : Settings} {i : BridgeTag} {e : ReadEvent}
    {a : SlotId} {r : EntryRecord} (h : b.status i = .inUse a r)
    (hc : (b.ort.get i).outcome = .corrected) :
    b.readEntry g i e
      = ((b.setWord i { b.ort.get i with flips := 0 }).noteCorrection g, some r) := by
  simp [Bridge.readEntry, h, hc]

theorem Bridge.readEntry_uncorrectable {b : Bridge} {g : Settings} {i : BridgeTag} {e : ReadEvent}
    {a : SlotId} {r : EntryRecord} (h : b.status i = .inUse a r)
    (hc : (b.ort.get i).outcome = .uncorrectable) :
    b.readEntry g i e = (b.loseEntry g i a e, none) := by
  simp [Bridge.readEntry, h, hc]

/-- A read that gives a record gives the record stored under the index, of an entry IN-USE. -/
theorem Bridge.readEntry_some {b c : Bridge} {g : Settings} {i : BridgeTag} {e : ReadEvent}
    {r : EntryRecord} (h : b.readEntry g i e = (c, some r)) : ∃ a, b.status i = .inUse a r := by
  unfold Bridge.readEntry at h
  split at h
  · cases h
  · cases h
  · rename_i a r' hs
    split at h
    · cases h; exact ⟨a, hs⟩
    · cases h; exact ⟨a, hs⟩
    · cases h

/-- A read that gives nothing finds no entry IN-USE, and then changes nothing, or loses the entry. -/
theorem Bridge.readEntry_none {b c : Bridge} {g : Settings} {i : BridgeTag} {e : ReadEvent}
    (h : b.readEntry g i e = (c, none)) :
    ((b.status i).isInUse = false ∧ c = b) ∨
      ∃ a r, b.status i = .inUse a r ∧ c = b.loseEntry g i a e := by
  unfold Bridge.readEntry at h
  split at h
  · rename_i hs
    cases h
    exact .inl ⟨by rw [hs]; rfl, rfl⟩
  · rename_i hs
    cases h
    exact .inl ⟨by rw [hs]; rfl, rfl⟩
  · rename_i a r' hs
    split at h
    · cases h
    · cases h
    · cases h; exact .inr ⟨a, r', hs, rfl⟩

theorem Bridge.noteCorrection_frame (b : Bridge) (g : Settings) :
    ∃ slots partFlags sendList log,
      b.noteCorrection g
        = { b with slots := slots, partFlags := partFlags, sendList := sendList, log := log } := by
  unfold Bridge.noteCorrection
  split
  · exact ⟨b.slots, b.partFlags, b.sendList, _, rfl⟩
  · obtain ⟨x, y, z, e⟩ := Bridge.raise_frame ({ b with
      log := { b.log with corrected := satAdd countTop b.log.corrected 1, announced := true } }) g
      (.part .eccCorrected)
    exact ⟨x, y, z, _, e⟩

/-- The status of every index after a corrected read is what it was. -/
theorem Bridge.noteCorrection_ort (b : Bridge) (g : Settings) : (b.noteCorrection g).ort = b.ort := by
  obtain ⟨_, _, _, _, e⟩ := b.noteCorrection_frame g
  rw [e]

/-! ### Releasing an entry (spec/02, R40, R44, R45) -/

/-- A STOOD-IN entry whose item is LISTED takes release pending. -/
theorem Bridge.releaseEntry_listed {b : Bridge} {i : BridgeTag} {a : SlotId} {r : EntryRecord}
    {hold : Time} {pending : Bool} (hs : b.status i = .inUse a r)
    (hp : r.phase = .stoodIn hold true pending) :
    (b.releaseEntry i r).status i = .inUse a { r with phase := .stoodIn hold true true } := by
  simp [Bridge.releaseEntry, hp, Bridge.putRecord, hs]

/-- A STOOD-IN entry whose item has LEFT goes to FREE. -/
theorem Bridge.releaseEntry_left {b : Bridge} {i : BridgeTag} {r : EntryRecord} {hold : Time}
    {pending : Bool} (hp : r.phase = .stoodIn hold false pending) :
    b.releaseEntry i r = b.freeEntry i := by
  simp [Bridge.releaseEntry, hp]

/-- An ORPHANED entry goes to FREE. -/
theorem Bridge.releaseEntry_orphaned {b : Bridge} {i : BridgeTag} {r : EntryRecord} {hold : Time}
    (hp : r.phase = .orphaned hold) : b.releaseEntry i r = b.freeEntry i := by
  simp [Bridge.releaseEntry, hp]

end Sys2Proof.Machine
end

