-- ==== Sys2Proof/Laws/OrtOnly.lean ====
section
/-! SUPPORT. The operations of the ORT and the Stand-in Work List leave the rest of the bridge alone: the relation
`OrtOnly` says so once, and each operation is shown to be within it. -/

namespace Sys2Proof.Machine

open Sys2Proof

/-- `c` is `b` but for the ORT, the work list, the direct item, the notes, the error log, the flags, the send list
and the free choices; the counters of the log stay within their maxima. -/
structure OrtOnly (b c : Bridge) : Prop where
  now : c.now = b.now
  upIngress : c.upIngress = b.upIngress
  stall : c.stall = b.stall
  headAnswer : c.headAnswer = b.headAnswer
  powerQueue : c.powerQueue = b.powerQueue
  inrush : c.inrush = b.inrush
  qualQueue : c.qualQueue = b.qualQueue
  run : c.run = b.run
  shadowWords : c.shadowWords = b.shadowWords
  bridgeQueue : c.bridgeQueue = b.bridgeQueue
  pointer : c.pointer = b.pointer
  burst : c.burst = b.burst
  unrouted : c.unrouted = b.unrouted
  unexpected : c.unexpected = b.unexpected
  linkOut : c.linkOut = b.linkOut
  slot : ∀ n, ∃ flags, c.slot n = { b.slot n with flags := flags }
  log : b.log.corrected ≤ 65535 ∧ b.log.overflow ≤ 255 →
    c.log.corrected ≤ 65535 ∧ c.log.overflow ≤ 255

theorem OrtOnly.refl (b : Bridge) : OrtOnly b b where
  now := rfl
  upIngress := rfl
  stall := rfl
  headAnswer := rfl
  powerQueue := rfl
  inrush := rfl
  qualQueue := rfl
  run := rfl
  shadowWords := rfl
  bridgeQueue := rfl
  pointer := rfl
  burst := rfl
  unrouted := rfl
  unexpected := rfl
  linkOut := rfl
  slot := fun n => ⟨(b.slot n).flags, rfl⟩
  log := id

theorem OrtOnly.trans {b c d : Bridge} (h : OrtOnly b c) (k : OrtOnly c d) : OrtOnly b d where
  now := k.now.trans h.now
  upIngress := k.upIngress.trans h.upIngress
  stall := k.stall.trans h.stall
  headAnswer := k.headAnswer.trans h.headAnswer
  powerQueue := k.powerQueue.trans h.powerQueue
  inrush := k.inrush.trans h.inrush
  qualQueue := k.qualQueue.trans h.qualQueue
  run := k.run.trans h.run
  shadowWords := k.shadowWords.trans h.shadowWords
  bridgeQueue := k.bridgeQueue.trans h.bridgeQueue
  pointer := k.pointer.trans h.pointer
  burst := k.burst.trans h.burst
  unrouted := k.unrouted.trans h.unrouted
  unexpected := k.unexpected.trans h.unexpected
  linkOut := k.linkOut.trans h.linkOut
  slot := fun n => by
    obtain ⟨x, hx⟩ := h.slot n
    obtain ⟨y, hy⟩ := k.slot n
    exact ⟨y, by rw [hy, hx]⟩
  log := fun e => k.log (h.log e)

theorem OrtOnly.stage {b c : Bridge} (h : OrtOnly b c) (n : SlotId) :
    (c.slot n).stage = (b.slot n).stage := by
  obtain ⟨x, hx⟩ := h.slot n
  rw [hx]

/-- A fold of steps that stay within `OrtOnly` stays within it. -/
theorem OrtOnly.foldl {α : Type} {f : Bridge → α → Bridge} (h : ∀ b x, OrtOnly b (f b x))
    (l : List α) (b : Bridge) : OrtOnly b (l.foldl f b) := by
  induction l generalizing b with
  | nil => exact OrtOnly.refl b
  | cons x rest ih => exact (h b x).trans (ih (f b x))

/-- A change of the fields that `OrtOnly` frees, and of no other. -/
theorem OrtOnly.of_fields (b : Bridge) (ort : Vector OrtWord 256) (workList : List EntryItem)
    (direct : Option DirectItem) (notes : List Note) (partFlags : BitVec 2)
    (sendList : List AlertPair) (env : Env) :
    OrtOnly b { b with
      ort := ort
      workList := workList
      direct := direct
      notes := notes
      partFlags := partFlags
      sendList := sendList
      env := env } := { OrtOnly.refl b with }

theorem OrtOnly.setWord (b : Bridge) (i : BridgeTag) (w : OrtWord) : OrtOnly b (b.setWord i w) :=
  OrtOnly.of_fields b _ b.workList b.direct b.notes b.partFlags b.sendList b.env

theorem OrtOnly.putStatus (b : Bridge) (i : BridgeTag) (x : EntryStatus) :
    OrtOnly b (b.putStatus i x) := OrtOnly.setWord b i _

theorem OrtOnly.dropNote (b : Bridge) (i : BridgeTag) : OrtOnly b (b.dropNote i) :=
  OrtOnly.of_fields b b.ort b.workList b.direct _ b.partFlags b.sendList b.env

theorem OrtOnly.freeEntry (b : Bridge) (i : BridgeTag) : OrtOnly b (b.freeEntry i) :=
  (OrtOnly.putStatus b i .free).trans (OrtOnly.dropNote _ i)

theorem OrtOnly.putRecord (b : Bridge) (i : BridgeTag) (r : EntryRecord) :
    OrtOnly b (b.putRecord i r) := by
  unfold Bridge.putRecord
  split
  · exact OrtOnly.putStatus b i _
  · exact OrtOnly.refl b
  · exact OrtOnly.refl b

theorem OrtOnly.standInEntry (b : Bridge) (g : Settings) (i : BridgeTag) (r : EntryRecord) :
    OrtOnly b (b.standInEntry g i r) := (OrtOnly.putRecord b i _).trans (OrtOnly.dropNote _ i)

theorem OrtOnly.orphanEntry (b : Bridge) (g : Settings) (i : BridgeTag) (r : EntryRecord) :
    OrtOnly b (b.orphanEntry g i r) := (OrtOnly.putRecord b i _).trans (OrtOnly.dropNote _ i)

theorem OrtOnly.releaseEntry (b : Bridge) (i : BridgeTag) (r : EntryRecord) :
    OrtOnly b (b.releaseEntry i r) := by
  unfold Bridge.releaseEntry
  split
  · exact OrtOnly.refl b
  · exact OrtOnly.putRecord b i _
  · exact OrtOnly.freeEntry b i
  · exact OrtOnly.freeEntry b i

theorem OrtOnly.raise (b : Bridge) (g : Settings) (p : AlertPair) : OrtOnly b (b.raise g p) where
  now := b.raise_now g p
  upIngress := b.raise_upIngress g p
  stall := b.raise_stall g p
  headAnswer := b.raise_headAnswer g p
  powerQueue := b.raise_powerQueue g p
  inrush := b.raise_inrush g p
  qualQueue := b.raise_qualQueue g p
  run := b.raise_run g p
  shadowWords := b.raise_shadowWords g p
  bridgeQueue := b.raise_bridgeQueue g p
  pointer := b.raise_pointer g p
  burst := b.raise_burst g p
  unrouted := b.raise_unrouted g p
  unexpected := b.raise_unexpected g p
  linkOut := b.raise_linkOut g p
  slot := b.raise_slot g p
  log := by rw [b.raise_log g p]; exact id

/-- A new error log whose counters stay within their maxima. -/
theorem OrtOnly.withLog (b : Bridge) (log : ErrorLog)
    (h : b.log.corrected ≤ 65535 ∧ b.log.overflow ≤ 255 →
      log.corrected ≤ 65535 ∧ log.overflow ≤ 255) :
    OrtOnly b { b with log := log } := { OrtOnly.refl b with log := h }

theorem OrtOnly.noteCorrection (b : Bridge) (g : Settings) : OrtOnly b (b.noteCorrection g) := by
  unfold Bridge.noteCorrection
  split
  · exact OrtOnly.withLog b _ fun h => ⟨Nat.min_le_right _ _, h.2⟩
  · exact (OrtOnly.withLog b
      { b.log with corrected := satAdd countTop b.log.corrected 1, announced := true }
      fun h => ⟨Nat.min_le_right _ _, h.2⟩).trans (OrtOnly.raise _ _ _)

theorem ErrorLog.report_counters (l : ErrorLog) (e : Latched)
    (h : l.corrected ≤ 65535 ∧ l.overflow ≤ 255) :
    (l.report e).corrected ≤ 65535 ∧ (l.report e).overflow ≤ 255 := by
  unfold ErrorLog.report
  split
  · exact h
  · exact ⟨h.1, Nat.min_le_right _ _⟩

theorem OrtOnly.noteUncorrectable (b : Bridge) (g : Settings) (w : LatchedWord) (n : SlotId)
    (e : ReadEvent) : OrtOnly b (b.noteUncorrectable g w n e) :=
  (OrtOnly.withLog b _ (ErrorLog.report_counters b.log _)).trans (OrtOnly.raise _ _ _)

theorem OrtOnly.loseEntry (b : Bridge) (g : Settings) (i : BridgeTag) (a : SlotId) (e : ReadEvent) :
    OrtOnly b (b.loseEntry g i a e) := by
  refine OrtOnly.trans ?_ (OrtOnly.noteUncorrectable _ g _ a e)
  refine OrtOnly.trans ?_ (OrtOnly.dropNote _ i)
  exact OrtOnly.of_fields b _ _ b.direct b.notes b.partFlags b.sendList b.env

theorem OrtOnly.readEntry (b : Bridge) (g : Settings) (i : BridgeTag) (e : ReadEvent) :
    OrtOnly b (b.readEntry g i e).1 := by
  unfold Bridge.readEntry
  split
  · exact OrtOnly.refl b
  · exact OrtOnly.refl b
  · split
    · exact OrtOnly.refl b
    · exact (OrtOnly.setWord b i _).trans (OrtOnly.noteCorrection _ g)
    · exact OrtOnly.loseEntry b g i _ e

theorem OrtOnly.listItem (b : Bridge) (i : BridgeTag) (r : EntryRecord) :
    OrtOnly b (b.listItem i r) := by
  unfold Bridge.listItem
  split
  · exact OrtOnly.of_fields b b.ort _ b.direct b.notes b.partFlags b.sendList b.env
  · exact OrtOnly.refl b

theorem OrtOnly.listItemOf (b : Bridge) (i : BridgeTag) : OrtOnly b (b.listItemOf i) := by
  unfold Bridge.listItemOf
  split
  · exact OrtOnly.listItem b i _
  · exact OrtOnly.refl b
  · exact OrtOnly.refl b

theorem OrtOnly.itemLeft (b : Bridge) (g : Settings) (i : BridgeTag) : OrtOnly b (b.itemLeft g i) := by
  have h := OrtOnly.readEntry b g i .itemLeft
  unfold Bridge.itemLeft
  split
  · rename_i c r e
    rw [e] at h
    split
    · exact h.trans (OrtOnly.freeEntry c i)
    · exact h.trans (OrtOnly.putRecord c i _)
    · exact h
    · exact h
  · rename_i c e
    rw [e] at h
    exact h

theorem OrtOnly.removeItemsToward (b : Bridge) (g : Settings) (a : SlotId) :
    OrtOnly b (b.removeItemsToward g a) := by
  refine OrtOnly.trans ?_ (OrtOnly.foldl (fun c i => OrtOnly.itemLeft c g i) _ _)
  exact OrtOnly.of_fields b b.ort _ _ b.notes b.partFlags b.sendList b.env

/-- A search whose act stays within `OrtOnly` stays within it. -/
theorem OrtOnly.search (b : Bridge) (g : Settings) {act : BridgeTag → EntryRecord → Bridge → Bridge}
    (h : ∀ i r c, OrtOnly c (act i r c)) : OrtOnly b (b.search g act) := by
  refine OrtOnly.trans
    (OrtOnly.of_fields b b.ort b.workList b.direct b.notes b.partFlags b.sendList _)
    (OrtOnly.foldl (f := Bridge.searchStep g act) ?_ b.searchOrder b.drawSearch)
  intro c i
  have hr := OrtOnly.readEntry c g i .search
  unfold Bridge.searchStep
  split
  · rename_i d r e
    rw [e] at hr
    exact hr.trans (h i r d)
  · rename_i d e
    rw [e] at hr
    exact hr

theorem OrtOnly.departEntry (g : Settings) (n : SlotId) (i : BridgeTag) (r : EntryRecord)
    (b : Bridge) : OrtOnly b (Bridge.departEntry g n i r b) := by
  unfold Bridge.departEntry
  split
  · split
    · split
      · exact OrtOnly.freeEntry b i
      · exact OrtOnly.standInEntry b g i r
      · exact OrtOnly.standInEntry b g i r
    · split
      · split
        · exact OrtOnly.orphanEntry b g i r
        · exact OrtOnly.refl b
      · exact OrtOnly.refl b
      · exact OrtOnly.refl b
  · exact OrtOnly.refl b
  · exact OrtOnly.refl b

theorem OrtOnly.freeBridgeEntry (n : SlotId) (i : BridgeTag) (r : EntryRecord) (b : Bridge) :
    OrtOnly b (Bridge.freeBridgeEntry n i r b) := by
  unfold Bridge.freeBridgeEntry
  split
  · split
    · exact OrtOnly.freeEntry b i
    · exact OrtOnly.refl b
  · exact OrtOnly.refl b

theorem OrtOnly.releaseHeldEntry (n : SlotId) (i : BridgeTag) (r : EntryRecord) (b : Bridge) :
    OrtOnly b (Bridge.releaseHeldEntry n i r b) := by
  unfold Bridge.releaseHeldEntry
  split
  · exact OrtOnly.releaseEntry b i r
  · exact OrtOnly.refl b

/-- Leaving ADMITTED acts on the entries and their items alone (spec/04, R78). -/
theorem OrtOnly.departAdmitted (b : Bridge) (g : Settings) (n : SlotId) :
    OrtOnly b (b.departAdmitted g n) :=
  (OrtOnly.search b g (OrtOnly.departEntry g n)).trans
    (OrtOnly.foldl (fun c i => OrtOnly.listItemOf c i) _ _)

/-- The entry actions of a state with SRST asserted, beyond the emptying of the slot's queues (R77). -/
theorem OrtOnly.srstEntry (b : Bridge) (g : Settings) (n : SlotId) :
    OrtOnly (b.emptyPortQueues n) (b.srstEntry g n) :=
  (OrtOnly.search _ g (OrtOnly.releaseHeldEntry n)).trans (OrtOnly.removeItemsToward _ g n)

end Sys2Proof.Machine
end

