-- ==== Sys2Proof/Laws/Lookup.lean ====
section
/-! SUPPORT. What the model's searches and lookups give, said once: the first number that fits, the records in use,
the record and the tag that a completion finds, the status of an entry that has been freed, and what is due. -/

namespace Sys2Proof.Machine

open Sys2Proof

/-- The first number of a range that fits: it fits, and no lower one does. -/
theorem find?_finRange_eq_some {k : Nat} {p : Fin k → Bool} {i : Fin k} :
    (List.finRange k).find? p = some i ↔ p i = true ∧ ∀ j, j < i → p j = false := by
  rw [List.find?_eq_some_iff_getElem]
  constructor
  · rintro ⟨h, m, hm, he, hj⟩
    have e : m = i.val := by rw [← he]; simp
    subst e
    exact ⟨h, fun j hlt => by simpa using hj j.val hlt⟩
  · rintro ⟨h, hj⟩
    refine ⟨h, i.val, by simp, by simp, fun m hlt => ?_⟩
    have := hj ⟨m, by omega⟩ hlt
    simpa using this

/-- A record is taken when it stands in some slot's list (spec/07, R145). -/
theorem Bridge.recordTaken_iff (b : Bridge) (k : RecordId) :
    b.recordTaken k = true ↔ ∃ n : SlotId, ∃ x ∈ (b.slot n).shadow, x.number = k := by
  have all : ∀ n : SlotId, n ∈ allSlots := by decide
  simp [Bridge.recordTaken, all]

/-- A read without effect gives the record of an IN-USE entry that is not uncorrectable. -/
theorem Bridge.peekEntry_eq_some (b : Bridge) (i : BridgeTag) (r : EntryRecord) :
    b.peekEntry i = some r ↔
      (∃ a, b.status i = .inUse a r) ∧ (b.ort.get i).outcome ≠ .uncorrectable := by
  unfold Bridge.peekEntry
  cases b.status i with
  | free => simp
  | lost a => simp
  | inUse a q => by_cases h : (b.ort.get i).outcome = .uncorrectable <;> simp [h]

/-- A completion names an index when it carries the bridge's requester ID and the index as its tag (spec/02, R33). -/
theorem tagFor_eq_some (g : Settings) (c : Completion) (i : BridgeTag) :
    tagFor g c = some i ↔ c.id = g.bridgeId ∧ c.tag = BitVec.ofNat 16 i.val := by
  have hi := i.isLt
  unfold tagFor
  by_cases h : c.id = g.bridgeId
  · simp only [h, if_true, true_and]
    constructor
    · intro k
      by_cases q : c.tag.toNat < 256
      · rw [dif_pos q] at k
        cases k
        apply BitVec.eq_of_toNat_eq
        simp
      · rw [dif_neg q] at k
        cases k
    · intro k
      have e : c.tag.toNat = i.val := by
        rw [k]
        simp
        omega
      rw [dif_pos (by omega)]
      exact congrArg some (Fin.ext e)
  · simp [h]

/-- Freeing an entry makes its index FREE and leaves every other status. -/
theorem Bridge.status_freeEntry (b : Bridge) (i j : BridgeTag) :
    (b.freeEntry i).status j = if j = i then .free else b.status j := by
  by_cases e : j = i
  · subst e
    simp [Bridge.freeEntry, Bridge.dropNote, Bridge.putStatus, Bridge.setWord, Bridge.status]
  · simp [Bridge.freeEntry, Bridge.dropNote, Bridge.putStatus, Bridge.setWord, Bridge.status,
      get_set_ne _ _ e, e]

/-- A command is queued when its condition holds, and it is that command. -/
theorem mem_dueIf (condition : Bool) (c d : Instr) :
    c ∈ dueIf condition d ↔ condition = true ∧ c = d := by
  unfold dueIf
  cases condition <;> simp

end Sys2Proof.Machine
end

