-- ==== Sys2Proof/Laws/Settle.lean ====
section
/-! SUPPORT. Settling ends: each round that changes the bridge leaves less that a later round could do, so the rounds
that `Bridge.settle` makes are enough, and one round more at its start changes nothing. -/

namespace Sys2Proof.Machine

open Sys2Proof

/-- The activity is AWAIT-ANSWER. -/
def Activity.awaits : Activity → Bool
  | .awaitAnswer _ => true
  | .issueWait _ => false
  | .retryWait _ => false
  | .pause _ => false

/-- A slot in this state has a replay that awaits an answer. -/
def Stage.awaits (s : Stage) : Bool :=
  match s.replay with
  | some r => r.activity.awaits
  | none => false

/-- The engine awaits an answer. -/
def Bridge.engineAwaits (b : Bridge) : Bool :=
  match b.run with
  | some r => r.activity.awaits
  | none => false

/-- A bound on the rounds that can still change the bridge: the senders that await an answer, and the slots in the
Qualification Queue. -/
def Bridge.roundsLeft (b : Bridge) : Nat :=
  b.engineAwaits.toNat + sumSlots (fun n => (b.slot n).stage.awaits.toNat) + b.qualQueue.length

/-- `c` is `b` after a change of slot `n`'s state that no sender awaits an answer in afterwards: no other slot's state
changes, no slot joins the queue, and the engine goes on as it was or awaits nothing. -/
structure Quieter (n : SlotId) (b c : Bridge) : Prop where
  run : c.run = b.run ∨ c.run = none
  queue : c.qualQueue.length ≤ b.qualQueue.length
  others : ∀ m, m ≠ n → (c.slot m).stage = (b.slot m).stage

theorem Quieter.refl (n : SlotId) (b : Bridge) : Quieter n b b :=
  ⟨.inl rfl, Nat.le_refl _, fun _ _ => rfl⟩

theorem Quieter.trans {n : SlotId} {b c d : Bridge} (h : Quieter n b c) (k : Quieter n c d) :
    Quieter n b d where
  run := by
    rcases k.run with e | e
    · rw [e]; exact h.run
    · exact .inr e
  queue := Nat.le_trans k.queue h.queue
  others := fun m hm => (k.others m hm).trans (h.others m hm)

theorem Quieter.of_ort {n : SlotId} {b c : Bridge} (h : OrtOnly b c) : Quieter n b c :=
  ⟨.inl h.run, Nat.le_of_eq (congrArg List.length h.qualQueue), fun m _ => h.stage m⟩

theorem Quieter.modSlot (n : SlotId) (b : Bridge) (f : Slot → Slot) : Quieter n b (b.modSlot n f) :=
  ⟨.inl rfl, Nat.le_refl _, fun m hm => by rw [b.slot_modSlot_ne f hm]⟩

theorem Quieter.setStage (n : SlotId) (b : Bridge) (x : Stage) : Quieter n b (b.setStage n x) :=
  Quieter.modSlot n b _

theorem Quieter.srstEntry (n : SlotId) (b : Bridge) (g : Settings) : Quieter n b (b.srstEntry g n) := by
  refine Quieter.trans ?_ (Quieter.of_ort (OrtOnly.srstEntry b g n))
  unfold Bridge.emptyPortQueues Bridge.countDiscarded Bridge.modFault
  exact (Quieter.modSlot n b _).trans (Quieter.modSlot n _ _)

theorem Quieter.leave (n : SlotId) (b : Bridge) (g : Settings) : Quieter n b (b.leave g n) := by
  unfold Bridge.leave
  split
  · exact Quieter.of_ort (OrtOnly.departAdmitted b g n)
  · refine Quieter.trans (c := b.leaveQualification n) ⟨?_, List.length_filter_le _ _, fun _ _ => rfl⟩
      (Quieter.of_ort (OrtOnly.search _ g (OrtOnly.freeBridgeEntry n)))
    unfold Bridge.leaveQualification
    rcases b.run with _ | r
    · exact .inl rfl
    · by_cases h : r.slot = n <;> simp [h]
  · exact Quieter.of_ort (OrtOnly.search b g (OrtOnly.freeBridgeEntry n))
  · exact ⟨.inl rfl, Nat.le_refl _, fun _ _ => rfl⟩
  all_goals exact Quieter.refl n b

theorem Quieter.enterResetting (n : SlotId) (b : Bridge) (g : Settings) :
    Quieter n b (b.enterResetting g n) := by
  have h := (Quieter.modSlot n b fun s => { s with attempts := (b.slot n).attempts + 1 }).trans
    (Quieter.srstEntry n _ g)
  unfold Bridge.enterResetting
  simp only
  split
  · exact h.trans (Quieter.setStage n _ _)
  · exact (h.trans (Quieter.modSlot n _ _)).trans (Quieter.setStage n _ _)

theorem Quieter.enterParked (n : SlotId) (b : Bridge) (g : Settings) (reason : Option ParkReason)
    (keep : Bool) : Quieter n b (b.enterParked g n reason keep) := by
  unfold Bridge.enterParked
  simp only
  refine Quieter.trans ?_ (Quieter.of_ort (OrtOnly.raise _ g _))
  refine Quieter.trans ?_ (Quieter.setStage n _ _)
  split
  · exact (Quieter.srstEntry n b g).trans (Quieter.modSlot n _ _)
  · exact ((Quieter.srstEntry n b g).trans (Quieter.modSlot n _ _)).trans (Quieter.modSlot n _ _)

theorem Bridge.setStage_stage (b : Bridge) (n : SlotId) (x : Stage) :
    ((b.setStage n x).slot n).stage = x := by
  unfold Bridge.setStage
  rw [Bridge.slot_modSlot_self]

/-- The states that an attempt failure leads to have no replay. -/
theorem Bridge.attemptFailure_awaits (b : Bridge) (g : Settings) (n : SlotId) (cause : Option ParkReason) :
    ((b.attemptFailure g n cause).slot n).stage.awaits = false := by
  unfold Bridge.attemptFailure
  simp only
  split
  · unfold Bridge.enterResetting
    simp only
    split <;> rw [Bridge.setStage_stage] <;> rfl
  · unfold Bridge.enterParked
    simp only
    rw [OrtOnly.stage (OrtOnly.raise _ g _), Bridge.setStage_stage]
    rfl

theorem Quieter.attemptFailure (n : SlotId) (b : Bridge) (g : Settings) (cause : Option ParkReason) :
    Quieter n b (b.attemptFailure g n cause) := by
  unfold Bridge.attemptFailure
  simp only
  split
  · exact (Quieter.leave n b g).trans (Quieter.enterResetting n _ g)
  · exact (Quieter.leave n b g).trans (Quieter.enterParked n _ g cause _)

/-! ### The bound falls -/

theorem Bool.toNat_le_of_imp {x y : Bool} (h : x = true → y = true) : x.toNat ≤ y.toNat := by
  cases x <;> cases y <;> simp_all

/-- The sum over the slots falls where one of them falls and no other rises. -/
theorem sumSlots_le {f k : SlotId → Nat} (h : ∀ m, f m ≤ k m) : sumSlots f ≤ sumSlots k := by
  have h0 := h 0
  have h1 := h 1
  have h2 := h 2
  have h3 := h 3
  unfold sumSlots
  omega

theorem sumSlots_lt {f k : SlotId → Nat} (n : SlotId) (h : ∀ m, f m ≤ k m) (hn : f n < k n) :
    sumSlots f < sumSlots k := by
  have h0 := h 0
  have h1 := h 1
  have h2 := h 2
  have h3 := h 3
  unfold sumSlots
  match n with
  | 0 => omega
  | 1 => omega
  | 2 => omega
  | 3 => omega

/-- A quieter bridge whose slot awaits nothing is bounded as the one before. -/
theorem Quieter.slots_le {n : SlotId} {b c : Bridge} (h : Quieter n b c)
    (hn : (c.slot n).stage.awaits = false) :
    sumSlots (fun m => (c.slot m).stage.awaits.toNat) ≤ sumSlots fun m => (b.slot m).stage.awaits.toNat := by
  refine sumSlots_le fun m => ?_
  by_cases e : m = n
  · subst e
    simp [hn]
  · rw [h.others m e]

theorem Quieter.slots_lt {n : SlotId} {b c : Bridge} (h : Quieter n b c)
    (hn : (c.slot n).stage.awaits = false) (hb : (b.slot n).stage.awaits = true) :
    sumSlots (fun m => (c.slot m).stage.awaits.toNat) < sumSlots fun m => (b.slot m).stage.awaits.toNat := by
  refine sumSlots_lt n (fun m => ?_) (by simp [hn, hb])
  by_cases e : m = n
  · subst e
    simp [hn]
  · rw [h.others m e]

theorem Quieter.engine_le {n : SlotId} {b c : Bridge} (h : Quieter n b c) :
    c.engineAwaits.toNat ≤ b.engineAwaits.toNat := by
  unfold Bridge.engineAwaits
  rcases h.run with e | e
  · rw [e]
  · simp [e]

theorem Quieter.engine_idle {n : SlotId} {b c : Bridge} (h : Quieter n b c) (hb : b.run = none) :
    c.engineAwaits = false := by
  unfold Bridge.engineAwaits
  rcases h.run with e | e
  · rw [e, hb]
  · rw [e]

/-- A result written at the end of a run leaves the engine idle. -/
theorem Quieter.writeQualResult (n : SlotId) (b : Bridge) (x : QualResult) :
    Quieter n b ((b.endRun).writeQualResult n x) :=
  ⟨.inr rfl, Nat.le_refl _, fun m hm => by
    unfold Bridge.writeQualResult
    rw [Bridge.slot_modSlot_ne _ _ hm]
    rfl⟩

theorem Bridge.writeQualResult_stage (b : Bridge) (n m : SlotId) (x : QualResult) :
    (((b.endRun).writeQualResult n x).slot m).stage = (b.slot m).stage := by
  unfold Bridge.writeQualResult
  rw [Bridge.slot_modSlot]
  split
  · rename_i e
    subst e
    rfl
  · rfl

theorem Bridge.stepFail_roundsLeft {b : Bridge} (g : Settings) {r : Run} (cause : StepCause)
    (observed : Option Word) (h : b.engineAwaits = true) :
    (b.stepFail g r cause observed).roundsLeft < b.roundsLeft := by
  have q := Quieter.writeQualResult r.slot b (.fail r.index cause observed)
  unfold Bridge.stepFail
  simp only
  split
  · have k := Quieter.attemptFailure r.slot
      ((b.endRun).writeQualResult r.slot (.fail r.index cause observed)) g (some .qualifyFail)
    have s := (q.trans k).slots_le (Bridge.attemptFailure_awaits _ g r.slot _)
    have e := k.engine_idle rfl
    have l := (q.trans k).queue
    unfold Bridge.roundsLeft
    rw [e, h]
    simp only [Bool.toNat_false, Bool.toNat_true]
    omega
  · have e : ((b.endRun).writeQualResult r.slot (.fail r.index cause observed)).engineAwaits = false := rfl
    have l := q.queue
    unfold Bridge.roundsLeft
    rw [e, h]
    simp only [Bridge.writeQualResult_stage, Bool.toNat_false, Bool.toNat_true]
    omega

theorem Bridge.replayExpired_roundsLeft {b : Bridge} (g : Settings) {n : SlotId}
    (h : (b.slot n).stage.awaits = true) :
    (b.replayExpired g n).roundsLeft < b.roundsLeft := by
  unfold Bridge.replayExpired
  split
  · rename_i r hr
    unfold Bridge.replayFail Bridge.writeReplayResult
    have q := (Quieter.modSlot n b fun s =>
      { s with replayResult := some (.failed .expired r.copyKey r.sent) }).trans
      (Quieter.attemptFailure n _ g (some .restoreFail))
    have s := q.slots_lt (Bridge.attemptFailure_awaits _ g n _) h
    have e := q.engine_le
    have l := q.queue
    unfold Bridge.roundsLeft
    omega
  · rename_i hr
    exfalso
    unfold Stage.awaits Stage.replay at h
    split at h
    · rename_i x hx
      split at hx <;> simp_all
    · cases h

/-! ### A run begun -/

theorem Quieter.enterAdmitted (n : SlotId) (b : Bridge) (g : Settings) :
    Quieter n b (b.enterAdmitted g n) := by
  unfold Bridge.enterAdmitted
  refine Quieter.trans ?_ (Quieter.of_ort (OrtOnly.raise _ g _))
  exact (Quieter.modSlot n b _).trans (Quieter.setStage n _ _)

theorem Bridge.enterAdmitted_awaits (b : Bridge) (g : Settings) (n : SlotId) :
    ((b.enterAdmitted g n).slot n).stage.awaits = false := by
  unfold Bridge.enterAdmitted
  rw [OrtOnly.stage (OrtOnly.raise _ g _), Bridge.setStage_stage]
  rfl

/-- A replay that is about to take a record waits to send, or ends. -/
theorem Quieter.replayNext (n : SlotId) (b : Bridge) (g : Settings) : Quieter n b (b.replayNext g n) := by
  unfold Bridge.replayNext
  split
  · split
    · exact (Quieter.modSlot n b _).trans (Quieter.attemptFailure n _ g _)
    · split
      · exact (Quieter.modSlot n b _).trans (Quieter.enterAdmitted n _ g)
      · exact Quieter.modSlot n b _
  · exact Quieter.refl n b

theorem Bridge.replayNext_awaits {b : Bridge} (g : Settings) {n : SlotId} {r : Replay}
    (h : (b.slot n).stage = .restoring r) : ((b.replayNext g n).slot n).stage.awaits = false := by
  unfold Bridge.replayNext
  rw [h]
  simp only
  split
  · exact Bridge.attemptFailure_awaits _ g n _
  · split
    · exact Bridge.enterAdmitted_awaits _ g n
    · unfold Bridge.setReplay
      rw [Bridge.slot_modSlot_self]
      rfl

/-- A run that passes leaves the engine idle, and its slot's replay, if one begins, waits to send. -/
theorem Bridge.runPass_quieter (b : Bridge) (g : Settings) (n : SlotId) :
    Quieter n b (b.runPass g n) ∧
      ((b.slot n).stage.awaits = false → ((b.runPass g n).slot n).stage.awaits = false) := by
  have q := Quieter.writeQualResult n b .pass
  unfold Bridge.runPass
  simp only
  split
  · split
    · unfold Bridge.enterRestoring
      exact ⟨(q.trans (Quieter.setStage n _ _)).trans (Quieter.replayNext n _ g),
        fun _ => Bridge.replayNext_awaits g (Bridge.setStage_stage _ n _)⟩
    · exact ⟨q.trans (Quieter.enterAdmitted n _ g), fun _ => Bridge.enterAdmitted_awaits _ g n⟩
  · exact ⟨q, fun h => by rw [Bridge.writeQualResult_stage]; exact h⟩

theorem Bridge.runPass_roundsLeft {b : Bridge} (g : Settings) (n : SlotId) (h : b.run = none) :
    (b.runPass g n).roundsLeft ≤ b.roundsLeft := by
  have q := (b.runPass_quieter g n).1
  have e := q.engine_idle h
  have l := q.queue
  have s : sumSlots (fun m => ((b.runPass g n).slot m).stage.awaits.toNat)
      ≤ sumSlots fun m => (b.slot m).stage.awaits.toNat := by
    refine sumSlots_le fun m => ?_
    by_cases d : m = n
    · subst d
      rcases k : (b.slot m).stage.awaits with _ | _
      · simp [(b.runPass_quieter g m).2 k]
      · exact Bool.toNat_le _
    · rw [q.others m d]
  unfold Bridge.roundsLeft
  rw [e]
  simp only [Bool.toNat_false]
  omega

/-- The first activity of a step awaits nothing. -/
theorem ScriptStep.firstActivity_awaits (s : ScriptStep) (now : Time) :
    (s.firstActivity now).awaits = false := by
  cases s <;> rfl

theorem Bridge.startRun_roundsLeft {b : Bridge} (g : Settings) {n : SlotId} {rest : List SlotId}
    (h : b.run = none) (hq : b.qualQueue = n :: rest) :
    (b.startRun g n rest).roundsLeft < b.roundsLeft := by
  have w : ({ b with qualQueue := rest } : Bridge).roundsLeft < b.roundsLeft := by
    have e : ({ b with qualQueue := rest } : Bridge).roundsLeft
        = b.engineAwaits.toNat + sumSlots (fun m => (b.slot m).stage.awaits.toNat) + rest.length := rfl
    unfold Bridge.roundsLeft at e ⊢
    rw [e, hq]
    simp only [List.length_cons]
    omega
  have p := Bridge.runPass_roundsLeft (b := { b with qualQueue := rest }) g n h
  unfold Bridge.startRun Bridge.beginStep
  split
  · split
    · rename_i s _
      refine Nat.lt_of_le_of_lt ?_ w
      unfold Bridge.roundsLeft Bridge.engineAwaits
      simp only [ScriptStep.firstActivity_awaits, Bool.toNat_false]
      rw [Nat.zero_add]
      exact Nat.add_le_add_right (Nat.le_add_left _ _) _
    · exact Nat.lt_of_le_of_lt p w
  · exact Nat.lt_of_le_of_lt p w

/-! ### Settling ends -/

/-- A round of settling finds nothing to do, or leaves less. -/
theorem Bridge.settleOne_roundsLeft (b : Bridge) (g : Settings) :
    b.settled = true ∨ (b.settleOne g).roundsLeft < b.roundsLeft := by
  unfold Bridge.settleOne Bridge.settled
  rcases hi : b.engineLostTag with _ | i
  · rcases hn : allSlots.find? b.replayLost with _ | n
    · rcases hr : b.run with _ | r
      · rcases hq : b.qualQueue with _ | ⟨n, rest⟩
        · exact .inl rfl
        · exact .inr (Bridge.startRun_roundsLeft g hr hq)
      · exact .inl rfl
    · refine .inr (Bridge.replayExpired_roundsLeft g ?_)
      have k := List.find?_some hn
      unfold Bridge.replayLost at k
      unfold Stage.awaits
      rcases hr : (b.slot n).stage.replay with _ | r
      · rw [hr] at k
        cases k
      · rw [hr] at k
        rcases ha : r.activity with j | j | j | j
        · simp [ha] at k
        · simp [ha, Activity.awaits]
        · simp [ha] at k
        · simp [ha] at k
  · right
    unfold Bridge.engineLostTag at hi
    unfold Bridge.scriptExpired
    split at hi
    · rename_i r hr
      split at hi
      · rename_i j hj
        split at hi
        · cases hi
          simp only [hj, if_true]
          refine Bridge.stepFail_roundsLeft g .expired none ?_
          unfold Bridge.engineAwaits
          rw [hr]
          simp only [hj]
          rfl
        · cases hi
      all_goals cases hi
    · cases hi

/-- Enough rounds settle a bridge. -/
theorem Bridge.settleRounds_settled (g : Settings) (k : Nat) {b : Bridge} (h : b.roundsLeft ≤ k) :
    (Bridge.settleRounds g k b).settled = true := by
  induction k generalizing b with
  | zero =>
    rcases b.settleOne_roundsLeft g with e | e
    · exact e
    · omega
  | succ k ih =>
    rcases b.settleOne_roundsLeft g with e | e
    · rw [Bridge.settleRounds_of_settled g e]
      exact e
    · exact ih (by omega)

theorem Bridge.settleRounds_add (g : Settings) (j k : Nat) (b : Bridge) :
    Bridge.settleRounds g (j + k) b = Bridge.settleRounds g k (Bridge.settleRounds g j b) := by
  induction j generalizing b with
  | zero => rw [Nat.zero_add]; rfl
  | succ j ih => rw [Nat.succ_add]; exact ih _

/-- Enough rounds are as many as any greater number of them. -/
theorem Bridge.settleRounds_enough (g : Settings) {j k : Nat} {b : Bridge} (h : b.roundsLeft ≤ j)
    (hk : j ≤ k) : Bridge.settleRounds g k b = Bridge.settleRounds g j b := by
  obtain ⟨d, rfl⟩ := Nat.le.dest hk
  rw [Bridge.settleRounds_add, Bridge.settleRounds_of_settled g (Bridge.settleRounds_settled g j h)]

theorem Bridge.roundsLeft_le (b : Bridge) : b.roundsLeft ≤ b.qualQueue.length + 5 := by
  have h := Bool.toNat_le b.engineAwaits
  have h0 := Bool.toNat_le (b.slot 0).stage.awaits
  have h1 := Bool.toNat_le (b.slot 1).stage.awaits
  have h2 := Bool.toNat_le (b.slot 2).stage.awaits
  have h3 := Bool.toNat_le (b.slot 3).stage.awaits
  unfold Bridge.roundsLeft sumSlots
  simp only
  omega

/-- Nothing is left to settle after settling. -/
theorem Bridge.settle_settled (b : Bridge) (g : Settings) : (b.settle g).settled = true :=
  Bridge.settleRounds_settled g _ b.roundsLeft_le

/-- Settling is one round and then settling what it leaves. -/
theorem Bridge.settle_settleOne (b : Bridge) (g : Settings) : b.settle g = (b.settleOne g).settle g := by
  rcases b.settleOne_roundsLeft g with e | e
  · rw [Bridge.settleOne_of_settled g e]
  · have h := b.roundsLeft_le
    unfold Bridge.settle
    rw [← Bridge.settleRounds_enough g (k := b.qualQueue.length + 5 + 1) h (Nat.le_succ _)]
    change Bridge.settleRounds g (b.qualQueue.length + 5) (b.settleOne g) = _
    rw [Bridge.settleRounds_enough g (Nat.le_refl _) (by omega : (b.settleOne g).roundsLeft ≤ _)]
    exact (Bridge.settleRounds_enough g (Nat.le_refl _) (Bridge.roundsLeft_le _)).symm

end Sys2Proof.Machine
end

