-- ==== Sys2Proof/Tests/Slice0.lean ====
section
/-! SUPPORT. The model's own tests: ill-formed commands that the check refuses, and, for every statement with
hypotheses, concrete states and operands that meet them, each clause at a boundary of its range. -/

namespace Sys2Proof.Tests

set_option Elab.async false

open Sys2Proof Sys2Proof.Machine Sys2Proof.Safety

/-! ### Small states -/

/-- The state after power-on reset. -/
def base : State := State.reset

/-- A change of the bridge. -/
def withBridge (s : State) (f : Bridge → Bridge) : State := onBridge s (f s.bridge)

/-- A change of slot `n`. -/
def withSlotN (n : SlotId) (f : Slot → Slot) (s : State) : State :=
  withBridge s fun b => b.modSlot n f

/-- Slot `n` in a stage. -/
def inStage (n : SlotId) (stage : Stage) (s : State) : State :=
  withSlotN n (fun x => { x with stage := stage, pwren := true }) s

/-- The time of the timebase. -/
def atTime (t : Time) (s : State) : State := withBridge s fun b => { b with now := t }

/-- A transaction alone in the Upstream Ingress Queue. -/
def hostHead (t : Transaction) (route : HostRoute) (s : State) : State :=
  withBridge s fun b => { b with upIngress := [{ txn := t, route := route }] }

/-- A transaction alone in a Card Ingress Queue. -/
def cardHead (n : SlotId) (t : Transaction) (route : CardRoute) (s : State) : State :=
  withSlotN n (fun x => { x with ingress := [{ txn := t, route := route }] }) s

/-- An entry of the ORT IN-USE. -/
def withEntry (i : BridgeTag) (account : SlotId) (r : EntryRecord) (s : State) : State :=
  withBridge s fun b => b.putStatus i (.inUse account r)

/-- Argument words from their numbers. -/
def args (ws : List Nat) : Vector Word 8 := Vector.ofFn fun k => BitVec.ofNat 32 (ws.getD k.val 0)

/-- Cell 3 IN-PROGRESS at the head of the Management Queue with these argument words. -/
def submitted (ws : List Nat) (s : State) : State :=
  { s with mgmt := { s.mgmt with
      cells := s.mgmt.cells.set 3 { Cell.reset with state := .inProgress (args ws) }
      queue := [3] } }

/-- `k` completions, to fill a queue. -/
def filler : Completion :=
  { status := .success, id := { bus := 0, device := 0, function := 0 }, tag := 0, remaining := 4,
    lower := 0, data := [] }

/-- A request of the host or a card. -/
def request (body : ReqBody) : Request :=
  { id := { bus := 7, device := 1, function := 2 }, tag := 9, body := body }

def readOf (addr : Addr) (length : Nat) : ReqBody := .memRead addr length 0xF 0xF
def writeOf (addr : Addr) (length : Nat) : ReqBody :=
  .memWrite addr length 0xF 0xF (List.replicate length 0xA5)
def target : CfgTarget := { bus := 0, device := 0, function := 0, offset := 0x10 }
def cfgReadOf : ReqBody := .cfgRead target 4 0xF
def cfgWriteOf : ReqBody := .cfgWrite target 4 0x3 (List.replicate 4 0xA5)

/-- A read of the host forwarded to slot 1, with a deadline. -/
def hostEntry (d : Time) : EntryRecord :=
  { phase := .opened d, origin := .upstream { id := (request cfgReadOf).id, tag := 9 },
    target := .slot 1, asked := .memRead 0x1000 8 0, allocatedAt := 0, answer := some .ones }

/-- A completion for bridge tag 5 with no bus number taken. -/
def answer (status : Status) (remaining : Nat) (data : List Byte) : Completion :=
  { status := status, id := { bus := 0, device := 0, function := 0 }, tag := 5,
    remaining := remaining, lower := 0, data := data }

/-! ### Which commands can occur -/

theorem test_payload_of_other_length_refused :
    (Instr.hostTransactionAccept (.request (request (.memWrite 0 8 0xF 0xF [0])))).wellFormed = false ∧
      (Instr.cardTransactionAccept 2 (.request (request (.cfgWrite target 4 0xF [])))).wellFormed
        = false := by decide

theorem test_remaining_out_of_range_refused :
    (Instr.hostTransactionAccept (.completion { filler with remaining := 3 })).wellFormed = false ∧
      (Instr.cardTransactionAccept 0 (.completion { filler with remaining := 4097 })).wellFormed
        = false := by decide

theorem test_wellFormed_accepts :
    (Instr.hostTransactionAccept (.request (request (writeOf 0 8)))).wellFormed = true ∧
      (Instr.cardTransactionAccept 0 (.completion { filler with remaining := 4096 })).wellFormed = true ∧
      Instr.arbiterGrant.wellFormed = true := by decide

/-- No row of the table gives bits. -/
theorem test_no_word_spells_a_command : decodeTableWord 32 0xFFFFFFFF = none := by decide

/-! ### Witnesses: the queue of commands and the laws -/

theorem test_hyp_StepRunsFrontCommand :
    ({ base with pending := [.headStall, .arbiterGrant] } : State).pending = .headStall :: [.arbiterGrant] :=
  rfl

/-- Nothing is due right after reset with the pins deasserted; an old grant time is due to be dropped. -/
theorem test_hyp_IdleStepQueuesDueOrTicks :
    base.pending = [] ∧ (base.bridge.noteStall base.settings).due base.settings = [] ∧
      let old := atTime 1000000 (withBridge base fun b => { b with inrush := [0] })
      old.pending = [] ∧ (old.bridge.noteStall old.settings).due old.settings
        = [.inrushHistoryExpiry] := by decide +kernel

/-- No upset to come, and one that strikes an IN-USE entry. -/
theorem test_hyp_TimePasses :
    let r : EntryRecord := { hostEntry 0 with phase := .orphaned 0 }
    let s := withBridge (withEntry 255 1 r base) fun b =>
      { b with env := { b.env with upsets := [.ortFlip 255 1] } }
    base.bridge.env.upsets = [] ∧ s.bridge.env.upsets = .ortFlip 255 1 :: [] ∧
      (s.bridge.tick.ort.get 255).flips = 1 ∧ s.bridge.tick.env.upsets = [] ∧
      s.bridge.examinations = [.holdExpiry 255] := by decide +kernel

/-- The end of a reset hold is due at its moment and not a microsecond before. -/
theorem test_due_at_its_moment :
    let s := fun t => atTime t (withSlotN 0 (fun x =>
      { x with stage := .powering (.hold 0 0), ind := { lit := true, since := some 50000 } }) base)
    (s 100000).bridge.due base.settings = [.sequenceComplete 0] ∧
      (s 99999).bridge.due base.settings = [] := by decide +kernel

/-- A step from a state other than that of reset, for the laws that every step keeps. -/
def near : State := { base with pending := [.arbiterGrant] }

theorem test_near_steps : ∃ t, step near = .next t := ⟨_, rfl⟩

theorem near_windows (i : Fin 48) : near.settings.windows.get i = none := by
  revert i; decide +kernel

theorem test_hyp_StepKeepsSettingsLaw : SettingsLaw near := by
  refine ⟨⟨fun i w h => ?_, fun i j v w _ h => ?_⟩, ?_, ?_, ?_, ?_, ?_⟩
  · rw [near_windows] at h; cases h
  · rw [near_windows] at h; cases h
  · unfold BusLaw; decide +kernel
  · unfold TimingLaw PolicyLaw ScriptLaw; decide +kernel
  · decide +kernel
  · unfold PartLaw; decide +kernel
  · decide +kernel

theorem test_hyp_StepKeepsCellLaw : CellLaw near := by unfold CellLaw; decide +kernel
theorem test_hyp_StepKeepsRoomLaw : RoomLaw near := by unfold RoomLaw; decide +kernel
theorem test_hyp_StepKeepsCounterLaw : CounterLaw near := by
  unfold CounterLaw FaultLaw; decide +kernel
theorem test_hyp_StepKeepsPowerLineLaw : PowerLineLaw near := by unfold PowerLineLaw; decide +kernel
theorem test_hyp_StepKeepsSlotQueueLaw : SlotQueueLaw near := by unfold SlotQueueLaw; decide +kernel
theorem test_hyp_StepKeepsPresenceLaw : PresenceLaw near :=
  ⟨test_hyp_StepKeepsSlotQueueLaw, by decide +kernel⟩
theorem test_hyp_StepKeepsShadowLaw : ShadowLaw near :=
  ⟨test_hyp_StepKeepsSettingsLaw, by decide +kernel⟩
theorem test_hyp_StepKeepsAttemptLaw : AttemptLaw near :=
  ⟨test_hyp_StepKeepsSettingsLaw, by decide +kernel⟩
theorem test_hyp_StepKeepsPoolLaw : PoolLaw near :=
  ⟨test_hyp_StepKeepsSettingsLaw, by decide +kernel⟩

theorem test_hyp_EngineCommandsFrame :
    bridgeCommand .arbiterGrant = true ∧ bridgeCommand (.linkUp 3) = true ∧
      bridgeCommand .setWindow = false ∧ (2 : SlotId) ≠ 1 := by decide

/-- The last place of each ingress queue is free, and then taken. -/
theorem test_hyp_AcceptanceQueuesWithRoute :
    let host := fun k => withBridge base fun b =>
      { b with upIngress := List.replicate k { txn := .completion filler, route := .byTag } }
    let card := fun k => withSlotN 3 (fun x =>
      { x with ingress := List.replicate k { txn := .completion filler, route := .unchecked } }) base
    (host 63).bridge.upIngress.length < 64 ∧ 64 ≤ (host 64).bridge.upIngress.length ∧
      ((card 31).bridge.slot 3).ingress.length < 32 ∧ 32 ≤ ((card 32).bridge.slot 3).ingress.length := by
  decide +kernel

/-! ### Witnesses: routes -/

/-- A window of 4 KiB at 0x20000 for slot 2. -/
def win : Window := { owner := 2, base := 0x20000, limit := 0x20FFF, kind := .decode .error }

/-- Window 5 loaded, and the aperture enabled at 0x8000. -/
def routed : State :=
  { base with settings := { Settings.reset with
      windows := Settings.reset.windows.set 5 (some win)
      header := { busNumber := none, memDecode := true, basePage := 8 } } }

theorem routed_windows (i : Fin 48) :
    routed.settings.windows.get i = if i = 5 then some win else none := by
  revert i; decide +kernel

theorem routed_law : SettingsLaw routed := by
  refine ⟨⟨fun i w h => ?_, fun i j v w hij h h' => ?_⟩, ?_, ?_, ?_, ?_, ?_⟩
  · rw [routed_windows] at h
    split at h
    · cases h; decide
    · cases h
  · rw [routed_windows] at h h'
    split at h
    · split at h'
      · rename_i a b; exact absurd (a.trans b.symm) hij
      · cases h'
    · cases h
  · unfold BusLaw; decide +kernel
  · unfold TimingLaw PolicyLaw ScriptLaw; decide +kernel
  · decide +kernel
  · unfold PartLaw; decide +kernel
  · decide +kernel

/-- The first and last byte of the aperture and of the window, and a read that runs one byte past the window. -/
theorem test_hyp_HostMemoryRoute :
    let inside := fun addr : Nat => routed.settings.header.memDecode = true ∧
      4096 * routed.settings.header.basePage.toNat ≤ addr ∧
      addr ≤ 4096 * routed.settings.header.basePage.toNat + 4095
    let covers := fun addr length : Nat => win.base.toNat ≤ addr ∧ addr + length - 1 ≤ win.limit.toNat
    inside 0x8000 ∧ inside 0x8FFF ∧ ¬ inside 0x7FFF ∧ ¬ inside 0x9000 ∧ ¬ inside 0x20000 ∧
      covers 0x20000 4 ∧ covers 0x20FFC 4 ∧ ¬ covers 0x20FFC 8 ∧ ¬ covers 0x1FFFC 4 := by
  decide +kernel

/-- Slot 1 holds buses 4 to 6. -/
def bused (taken : Option (BitVec 8)) : State :=
  { base with settings := { Settings.reset.modSlot 1 fun z =>
      { z with busRange := { first := 4, last := 6, valid := true } } with
    header := { Header.reset with busNumber := taken } } }

theorem test_hyp_HostConfigRoute :
    let holds := fun (s : State) (bus : BitVec 8) (n : SlotId) =>
      (s.settings.slot n).busRange.valid = true ∧
        (s.settings.slot n).busRange.first.toNat ≤ bus.toNat ∧
        bus.toNat ≤ (s.settings.slot n).busRange.last.toNat
    holds (bused none) 4 1 ∧ holds (bused none) 6 1 ∧ (∀ n, ¬ holds (bused none) 3 n) ∧
      (∀ n, ¬ holds (bused (some 2)) 7 n) ∧ (bused (some 2)).settings.header.busNumber = some 2 := by
  decide +kernel

theorem bused_law : SettingsLaw (bused none) := by
  refine ⟨⟨fun i w h => ?_, fun i j v w _ h => ?_⟩, ?_, ?_, ?_, ?_, ?_⟩
  · rw [show (bused none).settings.windows.get i = none from near_windows i] at h; cases h
  · rw [show (bused none).settings.windows.get i = none from near_windows i] at h; cases h
  · unfold BusLaw; decide +kernel
  · unfold TimingLaw PolicyLaw ScriptLaw; decide +kernel
  · decide +kernel
  · unfold PartLaw; decide +kernel
  · decide +kernel

theorem test_hyp_CardGrantOutcome :
    (request (readOf 0 4)).body = .memRead 0 4 0xF 0xF ∧
      (request (writeOf 0 4)).body = .memWrite 0 4 0xF 0xF (List.replicate 4 0xA5) ∧
      (request cfgReadOf).body = .cfgRead target 4 0xF := ⟨rfl, rfl, rfl⟩

/-- Window 5 of slot 2 covers the first and the last dword of its page for a card of another slot and for its own, and
does not cover the dword below it or a range that runs out of it. -/
theorem test_hyp_CardDestination :
    let covers := fun addr length : Nat => win.base.toNat ≤ addr ∧ addr + length - 1 ≤ win.limit.toNat
    routed.settings.windows.get 5 = some win ∧ win.kind = .decode .error ∧ win.owner = 2 ∧
      (win.owner ≠ (0 : SlotId)) ∧ covers 0x20000 4 ∧ covers 0x20FFC 4 ∧ ¬ covers 0x20FFC 8 ∧
      ¬ covers 0x1FFFC 4 ∧
      routed.settings.cardRoute 0 (.request (request (readOf 0x20FFC 4)))
        = .checked (.peer 2 .error) false ∧
      routed.settings.cardRoute 2 (.request (request (readOf 0x20FFC 4))) = .checked .upstream false := by
  decide +kernel

/-! ### Witnesses: the head of the Upstream Ingress Queue -/

/-- A request at the head for slot 1. -/
def toSlot (body : ReqBody) (s : State) : State :=
  hostHead (.request (request body)) (.slot 1 (some .ones)) s

/-- Slot 1's FIFO with `k` transactions. -/
def fifo (k : Nat) (s : State) : State :=
  withSlotN 1 (fun x =>
    { x with egress := List.replicate k { source := .traffic, txn := .completion filler } }) s

theorem test_hyp_HostRequestForwarded :
    let s := fifo 31 (inStage 1 .admitted base)
    let posted := toSlot (writeOf 0x1000 512) s
    let read := toSlot (readOf 0x1000 4096) s
    ReqBody.fits (writeOf 0x1000 512) = true ∧ ReqBody.posted (writeOf 0x1000 512) = true ∧
      ReqBody.fits (readOf 0x1000 4096) = true ∧
      ReqBody.asked (readOf 0x1000 4096) = some (.memRead 0x1000 4096 0) ∧
      (posted.bridge.slot 1).stage = .admitted ∧ (posted.bridge.slot 1).egress.length < 32 ∧
      read.bridge.offeredEntry read.settings 1 = some 0 := by decide +kernel

theorem test_hyp_HostRequestWaits :
    let full := toSlot cfgReadOf (fifo 32 (inStage 1 .admitted base))
    let quota := { Settings.reset with slots := Settings.reset.slots.map fun z =>
      { z with policy := { z.policy with quota := 0 } } }
    let lost := Vector.replicate 256 ({ status := .lost 0, flips := 0, stuck := 0 } : OrtWord)
    let none := toSlot cfgReadOf (inStage 1 .admitted (withBridge { base with settings := quota }
      fun b => { b with ort := lost }))
    ReqBody.fits cfgReadOf = true ∧ 32 ≤ (full.bridge.slot 1).egress.length ∧
      ReqBody.posted cfgReadOf = false ∧ none.bridge.offeredEntry none.settings 1 = .none := by
  decide +kernel

theorem test_hyp_HostRequestAnsweredAway :
    let s := toSlot cfgWriteOf (inStage 1 .fenced base)
    s.bridge.upIngress = { txn := .request (request cfgWriteOf), route := .slot 1 (some .ones) } :: [] ∧
      ReqBody.fits cfgWriteOf = true ∧ ReqBody.fits (readOf 0 4) = true ∧
      ReqBody.fits (writeOf 0 4) = true ∧ ReqBody.fits cfgReadOf = true ∧
      (s.bridge.slot 1).stage ≠ .admitted ∧ s.bridge.direct = none ∧
      s.bridge.headAnswer.getD (s.settings.policy 1).configAnswer = .ones ∧
      (some FenceAnswer.error).getD (s.settings.policy 1).configAnswer = .error := by decide +kernel

/-- A read of 4 100 bytes, one of 2 and an unknown kind are malformed; the longest that is not. -/
theorem test_hyp_HostRequestTurnedAway :
    ReqBody.fits (readOf 0 4096) = true ∧ ReqBody.fits (readOf 0 4100) = false ∧
      ReqBody.fits (readOf 0 2) = false ∧ ReqBody.fits (.unknown true) = false ∧
      ReqBody.posted (.unknown true) = true ∧ ReqBody.posted (readOf 0 4100) = false ∧
      base.bridge.direct = none := by decide +kernel

/-- A card's read of the host, half of it answered by a SUCCESS of 4 bytes. -/
theorem test_hyp_HostCompletionFits :
    let r : EntryRecord := { hostEntry 100 with
      origin := .slot 2 { id := (request cfgReadOf).id, tag := 9 }, target := .upstream }
    let c := answer .success 8 [1, 2, 3, 4]
    let s := withEntry 5 2 r (hostHead (.completion c) .byTag (inStage 2 .admitted base))
    c.id = s.settings.bridgeId ∧ c.tag = BitVec.ofNat 16 (5 : BridgeTag).val ∧
      s.bridge.status 5 = .inUse 2 r ∧ (s.bridge.ort.get 5).outcome = .clean ∧
      r.asked.fits c = true ∧ r.asked.after c = some (.memRead 0x1000 8 4) ∧
      r.asked.after { c with data := List.replicate 8 0 } = none ∧
      (s.bridge.slot 2).egress.length < 32 := by decide +kernel

/-- Another ID; the first tag that names no entry; a FREE and a LOST tag and one of a slot's entry; a misfit; a late
completion that ends the debt and one that does not. -/
theorem test_hyp_HostCompletionDropped :
    let mine : EntryRecord := { hostEntry 0 with
      origin := .slot 2 { id := (request cfgReadOf).id, tag := 9 }, target := .upstream }
    let held : EntryRecord := { mine with phase := .stoodIn 100 true false }
    let s := withEntry 5 2 held (hostHead (.completion (answer .aborted 8 [])) .byTag base)
    ({ bus := 1, device := 0, function := 0 } : ReqId) ≠ s.settings.bridgeId ∧
      256 ≤ (256 : Tag).toNat ∧ ¬ 256 ≤ (255 : Tag).toNat ∧
      s.bridge.upIngress = { txn := .completion (answer .aborted 8 []), route := .byTag } :: [] ∧
      s.bridge.status 4 = .free ∧ s.bridge.status 5 = .inUse 2 held ∧
      (s.bridge.ort.get 5).outcome = .clean ∧ (hostEntry 0).target ≠ .upstream ∧
      mine.asked.fits (answer .success 7 [1, 2, 3, 4]) = false ∧
      held.asked.lateFinishes (answer .aborted 8 []) = true ∧
      held.asked.lateFinishes (answer .success 8 [1, 2, 3, 4]) = false := by decide +kernel

/-! ### Witnesses: the management function and the aperture -/

/-- A request at the head for the management function with `k` answers waiting. -/
theorem test_hyp_BridgeRequesterId :
    (bused (some 255)).settings.header.busNumber = some 255 ∧
      (bused none).settings.header.busNumber = none := ⟨rfl, rfl⟩

def toMgmt (body : ReqBody) (k : Nat) : State :=
  withBridge (hostHead (.request (request body)) .management base) fun b =>
    { b with bridgeQueue := List.replicate k (.completion filler) }

theorem test_hyp_ManagementConfigAnswered :
    let s := toMgmt cfgReadOf 63
    s.bridge.upIngress = { txn := .request (request cfgReadOf), route := .management } :: [] ∧
      s.bridge.bridgeQueue.length < 64 ∧ ReqBody.fits cfgReadOf = true ∧
      ReqBody.fits cfgWriteOf = true ∧ (target.device = 0 ∧ target.function = 0) ∧
      ¬ ({ target with function := 7 } : CfgTarget).function = 0 := by decide +kernel

/-- A read of the last word of the aperture, and one that runs one word past it. -/
theorem test_hyp_ApertureReadAnswered :
    ReqBody.fits (readOf 0x8FFC 4) = true ∧ (0x8FFC : Addr).toNat % 4096 + 4 ≤ 4096 ∧
      ReqBody.fits (readOf 0x8FFC 8) = true ∧ 4096 < (0x8FFC : Addr).toNat % 4096 + 8 ∧
      (toMgmt (readOf 0x8FFC 4) 63).bridge.bridgeQueue.length < 64 := by decide +kernel

/-- Word 0 of cell 15, a word of it that submits nothing, and a write past the end of the aperture. -/
theorem test_hyp_ApertureWriteTaken :
    let writes := fun addr => dwordWrites addr 4 0xF 0xF (List.replicate 4 0xA5)
    (writes 0x83C0).any DwordWrite.submits = true ∧ (writes 0x83C4).any DwordWrite.submits = false ∧
      (dwordWrites 0x83C0 4 0 0 (List.replicate 4 0xA5)).any DwordWrite.submits = false ∧
      (0x8FFC : Addr).toNat % 4096 + 4 ≤ 4096 ∧ ¬ (0x8FFC : Addr).toNat % 4096 + 8 ≤ 4096 ∧
      ReqBody.fits (writeOf 0x8FFC 8) = true := by decide +kernel

theorem test_hyp_CellWords :
    (submitted [1] base).mgmt.cells.get 3
        = { Cell.reset with state := .inProgress (args [1]) } ∧
      (base.mgmt.cells.get 3).state = .idle ∧ (1 : BitVec 4) ≠ 0 := by decide +kernel

/-- A write of words 4 to 8 of cell 2 and of words 0 and 1 of cell 3, and one of word 0 of cell 3 IN-PROGRESS. -/
theorem test_hyp_WholeWrites :
    let ws := fun first count => dwordWrites (0x8000 + 4 * first) (4 * count) 0xF 0xF []
    (ws 36 14).Pairwise (fun v w => v.index < w.index) ∧
      (ws 36 14).any (fun w => decide (w.index = 16 * (3 : CellId).val) && decide (w.be ≠ 0)) = true ∧
      (ws 36 12).any (fun w => decide (w.index = 16 * (3 : CellId).val) && decide (w.be ≠ 0)) = false ∧
      (base.mgmt.cells.get 3).state = .idle ∧
      ((submitted [1] base).mgmt.cells.get 3).state = .inProgress (args [1]) := by decide +kernel

/-! ### Witnesses: the head of a Card Ingress Queue -/

/-- A granted request of card 0 for the host or for peer 1, with one place left where it goes. -/
theorem test_hyp_CardRequestForwarded :
    let s := fifo 31 (inStage 0 .admitted (withSlotN 0 (fun x =>
      { x with upQueue := List.replicate 31 (.completion filler) }) base))
    let up := cardHead 0 (.request (request (readOf 0 4))) (.checked .upstream true) s
    let peer := inStage 1 .admitted up
    (up.bridge.slot 0).stage = .admitted ∧ (up.bridge.slot 0).upQueue.length < 32 ∧
      up.bridge.offeredEntry up.settings 0 = some 0 ∧
      ReqBody.asked (readOf 0 4) = some (.memRead 0 4 0) ∧ ReqBody.posted (writeOf 0 4) = true ∧
      (peer.bridge.slot 1).stage = .admitted ∧ (peer.bridge.slot 1).egress.length < 32 ∧
      (up.bridge.slot 1).stage ≠ .admitted ∧ up.bridge.direct = none := by decide +kernel

theorem test_hyp_CardRequestRefused :
    let s := cardHead 3 (.request (request cfgReadOf)) (.checked .upstream false)
      (inStage 3 .admitted base)
    (s.bridge.slot 3).ingress
        = { txn := .request (request cfgReadOf), route := .checked .upstream false } :: [] ∧
      ReqBody.fits cfgReadOf = true ∧ (s.bridge.slot 3).stage = .admitted ∧
      s.bridge.direct = none := by decide +kernel

theorem test_hyp_CardMessageHandled :
    let s := cardHead 2 (.request (request (.message (.error .nonfatal)))) .unchecked
      (inStage 2 .admitted base)
    (s.bridge.slot 2).stage = .admitted ∧ (s.settings.policy 2).messagePolicy = .forward ∧
      (s.bridge.slot 2).upQueue.length < 32 ∧ (base.bridge.slot 2).stage ≠ .admitted := by
  decide +kernel

theorem test_hyp_CardRequestTurnedAway :
    ReqBody.fits (readOf 0 4100) = false ∧ ReqBody.fits (readOf 0 4) = true ∧
      ReqBody.posted (writeOf 0 512) = true ∧ ReqBody.posted (readOf 0 4) = false ∧
      ((inStage 0 .parked base).bridge.slot 0).stage ≠ .admitted := by decide +kernel

/-- A completion of card 1 for the host, for card 3, and for the engine, each with the last place free. -/
theorem test_hyp_CardCompletionForwarded :
    let c := answer .success 8 (List.replicate 8 0)
    let s := withSlotN 1 (fun x => { x with upQueue := List.replicate 31 (.completion filler) })
      (withEntry 5 1 (hostEntry 100) (cardHead 1 (.completion c) .unchecked base))
    c.id = s.settings.bridgeId ∧ s.bridge.status 5 = .inUse 1 (hostEntry 100) ∧
      (s.bridge.ort.get 5).outcome = .clean ∧ (hostEntry 100).asked.fits c = true ∧
      (s.bridge.slot 1).upQueue.length < 32 ∧ (s.bridge.slot 3).egress.length < 32 := by
  decide +kernel

/-- A host configuration write that card 1, ADMITTED, answers SUCCESS, with its pending note and without one. -/
theorem test_hyp_CardCompletionCaptured :
    let r : EntryRecord := { hostEntry 100 with asked := .cfgWrite target 3 }
    let c := answer .success 4 []
    let note : Note :=
      { tag := 5, slot := 1, bus := 0, function := 0, offset := 0x10, be := 3, payload := 0xA5A5 }
    let s := withEntry 5 1 r (cardHead 1 (.completion c) .unchecked (inStage 1 .admitted base))
    let noted := withBridge s fun b => { b with notes := [note] }
    r.asked.fits c = true ∧ c.status = .success ∧ (s.bridge.slot 1).stage = .admitted ∧
      (s.bridge.notes.find? fun m => decide (m.tag = 5)) = none ∧
      (noted.bridge.notes.find? fun m => decide (m.tag = 5)) = some note := by decide +kernel

/-- A completion of a configuration read of origin BRIDGE. -/
theorem test_hyp_BridgeAnswerDelivered :
    let r : EntryRecord := { hostEntry 100 with
      origin := .bridge (.script 0), asked := .cfgRead target 0xF }
    r.asked.fits (answer .success 4 [0, 0, 0, 0]) = true ∧
      r.asked.fits (answer .notReady 4 []) = true ∧ r.target = .slot 1 := by decide +kernel

/-- Another ID; a FREE, a LOST and another slot's tag; a misfit; a late completion that ends the debt. -/
theorem test_hyp_CardCompletionDropped :
    let held : EntryRecord := { hostEntry 0 with phase := .orphaned 100 }
    ({ bus := 1, device := 0, function := 0 } : ReqId) ≠ base.settings.bridgeId ∧
      256 ≤ (256 : Tag).toNat ∧ ¬ 256 ≤ (255 : Tag).toNat ∧
      base.bridge.status 5 = .free ∧ (hostEntry 0).target ≠ .slot 2 ∧
      (hostEntry 0).asked.fits (answer .success 7 [1, 2, 3, 4]) = false ∧
      held.asked.lateFinishes (answer .success 8 (List.replicate 8 0)) = true ∧
      held.asked.lateFinishes (answer .success 8 [1, 2, 3, 4]) = false := by decide +kernel

/-! ### Witnesses: what leaves the bridge -/

theorem test_hyp_EgressHeadSent :
    let s := fun stage => withSlotN 1 (fun x => { x with linkUp := true }) (fifo 1 (inStage 1 stage base))
    ((s .admitted).bridge.slot 1).egress
        = { source := .traffic, txn := .completion filler } :: [] ∧
      ((s .admitted).bridge.slot 1).linkUp = true ∧ ((s .admitted).bridge.slot 1).stage = .admitted ∧
      ((s .qualifying).bridge.slot 1).stage = .qualifying ∧ Stage.fenced.srst = false ∧
      ReqBody.posted cfgReadOf = false ∧ ReqBody.posted (writeOf 0 4) = true := by
  decide +kernel

/-- Slot 2 alone has a transaction; the pointer is at slot 0, whose queue is empty. -/
theorem test_hyp_ArbiterGrantsBySource :
    let s := withSlotN 2 (fun x => { x with upQueue := [.completion filler] }) base
    let own := withBridge s fun b => { b with pointer := 2, burst := 3 }
    let spent := withBridge s fun b => { b with pointer := 2, burst := 4 }
    s.bridge.bridgeQueue = [] ∧ (s.bridge.slot s.bridge.pointer).upQueue = [] ∧
      (s.bridge.slot 2).upQueue ≠ [] ∧
      (∀ m : SlotId, (m - s.bridge.pointer - 1).val < ((2 : SlotId) - s.bridge.pointer - 1).val →
        (s.bridge.slot m).upQueue = []) ∧
      own.bridge.burst < own.settings.part.burst ∧
      own.settings.part.burst ≤ spent.bridge.burst := by decide +kernel

theorem test_hyp_BridgeQueueHeads :
    (withBridge base fun b => { b with bridgeQueue := [.completion filler] }).bridge.bridgeQueue
        = .completion filler :: [] ∧
      (withBridge base fun b => { b with bridgeQueue := [.request (request (writeOf 0 4))] }).bridge.bridgeQueue
        = .request (request (writeOf 0 4)) :: [] ∧
      (withSlotN 2 (fun x => { x with upQueue := [.request (request (readOf 0 4))] }) base).bridge.slot 2
        = { base.bridge.slot 2 with upQueue := .request (request (readOf 0 4)) :: [] } := by
  decide +kernel

/-- The second item is the first eligible one: a begun read's last piece, of 4 bytes up to 0x1080. -/
def listed : State :=
  withBridge (withEntry 5 1 { hostEntry 0 with phase := .stoodIn 100 true false } base) fun b =>
    { b with workList :=
        [{ entry := 9, dest := .host 1 1, begun := none },
          { entry := 5, dest := .host 1 0, begun := none }] }

theorem test_hyp_StandInItemHandedOn :
    let r : EntryRecord := { hostEntry 0 with phase := .stoodIn 100 true false }
    listed.bridge.eligible { entry := 9, dest := .host 1 1, begun := none } = false ∧
      listed.bridge.eligible { entry := 5, dest := .host 1 0, begun := none } = true ∧
      listed.bridge.status 5 = .inUse 1 r ∧ (listed.bridge.ort.get 5).outcome = .clean ∧
      r.standIn = .pieces ∧ ({ r with asked := .cfgRead target 0xF } : EntryRecord).standIn = .cfgOnes ∧
      ({ r with answer := some .error } : EntryRecord).standIn = .single .aborted ∧
      min 0x1080 ((0x107C / 128 + 1) * 128) = 0x1080 ∧ min 0x1084 ((0x107C / 128 + 1) * 128) ≠ 0x1084 := by
  decide +kernel

/-- With the drain count of the first item at 1 and of the second at 0 the second is ready; with both at 1 neither is. -/
theorem test_hyp_NoItemReady :
    let ready := fun drain : Nat => drain = 0 ∧ listed.bridge.bridgeQueue.length < 64
    ¬ ready 1 ∧ ready 0 ∧
      ¬ ((List.replicate 64 (Transaction.completion filler)).length < 64) := by decide +kernel

/-- The end of an item of an entry whose release is pending, of one whose is not, of one with two bad bits, and of a FREE
index. -/
theorem test_hyp_ItemEnds :
    let r : EntryRecord := { hostEntry 0 with phase := .stoodIn 100 true false }
    let bad := listed.bridge.setWord 5 { listed.bridge.ort.get 5 with flips := 1, stuck := 1 }
    listed.bridge.status 5 = .inUse 1 r ∧ (listed.bridge.status 9).isInUse = false ∧
      (listed.bridge.ort.get 5).flips + (listed.bridge.ort.get 5).stuck ≤ 1 ∧
      2 ≤ (bad.ort.get 5).flips + (bad.ort.get 5).stuck ∧ bad.status 5 = .inUse 1 r ∧
      ({ r with phase := .stoodIn 100 true true } : EntryRecord).phase = .stoodIn 100 true true := by
  decide +kernel

theorem test_hyp_StandInAnswer :
    (hostEntry 0).asked = .memRead 0x1000 8 0 ∧ (hostEntry 0).answer = some .ones :=
  ⟨rfl, rfl⟩

/-- The direct item toward the host with one place left, and toward card 1 at the end of its budget. -/
theorem test_hyp_DirectItemHandedOn :
    let s := withBridge (toMgmt cfgReadOf 63) fun b =>
      b.occupyDirect (request (readOf 0x1000 8)) .host .pieces (some 1)
    let late := atTime (s.settings.slotBudget 1) s
    s.bridge.direct.isSome = true ∧ s.bridge.bridgeQueue.length < 64 ∧
      ((inStage 1 .admitted s).bridge.slot 1).stage.srst = false ∧
      reached late.bridge.now (0 + s.settings.slotBudget 1) = true ∧
      reached (late.bridge.now - 1) (0 + s.settings.slotBudget 1) = false := by decide +kernel

theorem test_hyp_AlertWriteFormed :
    let on : State := { base with settings := { Settings.reset with
      alert := { address := 0x1000, data := 0, slotEnables := 0x80, partEnables := 0 } } }
    let s := withBridge on fun b => { b with sendList := [.slot 3 .cardErrorMsg] }
    s.bridge.sendList = .slot 3 .cardErrorMsg :: [] ∧ s.bridge.bridgeQueue.length < 64 ∧
      (AlertPair.slot 3 .cardErrorMsg).enabled s.settings = true ∧ s.settings.alert.address ≠ 0 ∧
      (AlertPair.slot 3 .violation).enabled s.settings = false ∧ base.settings.alert.address = 0 := by
  decide +kernel

theorem test_hyp_AlertRaised :
    base.bridge.flagSet (.part .eccCorrected) = false ∧
      (base.bridge.setFlag (.part .eccCorrected)).flagSet (.part .eccCorrected) = true ∧
      (AlertPair.part .eccUncorrectable ≠ .part .eccCorrected) := by decide +kernel

/-- The word of CARD_ERROR_MSG of slot 3 and of ECC_UNCORRECTABLE, with all ones as alert data. -/
theorem test_alert_words :
    (AlertPair.slot 3 .cardErrorMsg).word 0xFFFFFFFF = 0xFFFFFFC8 ∧
      (AlertPair.part .eccUncorrectable).word 0xFFFFFFFF = 0xFFFFFF11 := by decide

/-! ### Witnesses: time -/

theorem test_hyp_TimeTest :
    reached 3 0xFFFFFFFE = true ∧ ((3 : Time) - 0xFFFFFFFE).toNat + 0 < 2 ^ 31 ∧
      reached 0x80000000 0 = false ∧ reached 0x7FFFFFFF 0 = true := by decide

theorem test_hyp_DeadlineExpiryTaken :
    let s := atTime 100 (withEntry 5 1 (hostEntry 100) base)
    let replay : Replay :=
      { cursor := 1, activity := .awaitAnswer 5, copy := none, retryCount := 0, retryLimit := 0,
        retryInterval := 1, sent := 1 }
    s.bridge.status 5 = .inUse 1 (hostEntry 100) ∧ (s.bridge.ort.get 5).outcome = .clean ∧
      reached s.bridge.now 100 = true ∧ reached s.bridge.now 101 = false ∧
      ((inStage 1 (.restoring replay) s).bridge.slot 1).stage = .restoring replay := by
  decide +kernel

theorem test_hyp_HoldExpiryReleases :
    let r : EntryRecord := { hostEntry 0 with phase := .stoodIn 100 true false }
    let s := atTime 100 (withEntry 255 1 r base)
    s.bridge.status 255 = .inUse 1 r ∧ (s.bridge.ort.get 255).outcome = .clean ∧
      reached s.bridge.now 100 = true := by decide +kernel

/-- A CLEAN, a CORRECTED and an UNCORRECTABLE record. -/
theorem test_hyp_ProtectedEntryRead :
    let b := fun flips stuck => (base.bridge.setWord 5
      { status := .inUse 1 (hostEntry 0), flips := flips, stuck := stuck }).ort.get 5
    (b 0 0).flips + (b 0 0).stuck = 0 ∧ (b 0 1).flips + (b 0 1).stuck = 1 ∧
      2 ≤ (b 1 1).flips + (b 1 1).stuck ∧ base.bridge.log.announced = false ∧
      base.bridge.log.latched = none := by decide +kernel

/-- The first correction and a later one, and the first uncorrectable error and a later one. -/
theorem test_hyp_CorrectionCounted :
    let latched : Latched := { word := .ort 5, slot := 1, event := .search, time := 0 }
    base.bridge.log.announced = false ∧ base.bridge.log.latched = none ∧
      ({ ErrorLog.reset with announced := true } : ErrorLog).announced = true ∧
      ({ ErrorLog.reset with latched := some latched } : ErrorLog).latched ≠ none := by decide

theorem test_hyp_SuspicionDecays :
    let s := atTime 10000 (withSlotN 0 (fun x => { x with suspicion := 1 }) base)
    0 < (s.bridge.slot 0).suspicion ∧ reached s.bridge.now
      ((s.bridge.slot 0).quietRef + msec s.settings.part.quietInterval) = true := by decide +kernel

theorem test_hyp_HeadStallReported :
    let s := atTime 5000 (withBridge (toSlot cfgReadOf (fifo 32 (inStage 1 .admitted base))) fun b =>
      { b with stall := some { slot := 1, start := 0 } })
    s.bridge.stall = some { slot := 1, start := 0 } ∧
      s.bridge.headWaitsOn s.settings = some 1 ∧
      reached s.bridge.now (0 + msec s.settings.part.stallLimit) = true ∧
      reached (s.bridge.now - 1) (0 + msec s.settings.part.stallLimit) = false := by decide +kernel

/-- Heads that wait: a request for a full FIFO, for the direct item, and a completion of the host for a full FIFO; and a
request with room, which does not. -/
theorem test_hyp_HeadWaitsOnSlot :
    let read : EntryRecord := { hostEntry 100 with
      origin := .slot 1 { id := (request cfgReadOf).id, tag := 9 }, target := .upstream }
    let completes := hostHead (.completion (answer .aborted 8 [])) .byTag
      (withEntry 5 1 read (fifo 32 (inStage 1 .admitted base)))
    let busy := withBridge (toSlot cfgReadOf base) fun b =>
      b.occupyDirect (request cfgReadOf) .host .cfgOnes none
    let roomy := toSlot cfgReadOf (fifo 31 (inStage 1 .admitted base))
    base.bridge.upIngress = [] ∧ base.bridge.headWaitsOn base.settings = none ∧
      completes.bridge.headWaitsOn base.settings = some 1 ∧
      completes.bridge.status 5 = .inUse 1 read ∧ busy.bridge.direct ≠ none ∧
      busy.bridge.headWaitsOn base.settings = some 1 ∧
      roomy.bridge.headWaitsOn base.settings = none := by decide +kernel

theorem test_hyp_AvailableEntryExists :
    PoolLaw near ∧ near.bridge.available near.settings 0 = true :=
  ⟨test_hyp_StepKeepsPoolLaw, by decide +kernel⟩

/-! ### Witnesses: the sequencers -/

theorem test_hyp_FenceActTaken :
    let s := withEntry 5 1 (hostEntry 100) (inStage 1 .admitted base)
    (s.bridge.slot 1).stage = .admitted ∧ (∀ i, (s.bridge.ort.get i).outcome = .clean) ∧
      s.bridge.status 5 = .inUse 1 (hostEntry 100) ∧ (hostEntry 100).target = .slot 1 := by
  decide +kernel

/-- Two entries allocated at one moment, and one of the engine that is freed. -/
theorem test_hyp_FenceActListsItems :
    let own : EntryRecord := { hostEntry 100 with origin := .bridge (.script 0) }
    let s := withEntry 9 1 own (withEntry 7 1 (hostEntry 90) (withEntry 5 1 (hostEntry 100)
      (inStage 1 .admitted base)))
    (s.bridge.slot 1).stage = .admitted ∧ (∀ i, (s.bridge.ort.get i).outcome = .clean) ∧
      s.bridge.status 5 = .inUse 1 (hostEntry 100) ∧ s.bridge.status 7 = .inUse 1 (hostEntry 90) ∧
      ((5 : BridgeTag) < 7) ∧ (hostEntry 100).allocatedAt = (hostEntry 90).allocatedAt := by
  decide +kernel

/-- An item toward card 1 that answers entry 5, whose target is slot 2, and one toward the host for entry 7 of slot 1. -/
theorem test_hyp_ResetReleasesEntries :
    let peer : EntryRecord := { hostEntry 0 with
      phase := .stoodIn 100 true false, origin := .slot 1 { id := (request cfgReadOf).id, tag := 9 },
      target := .slot 2 }
    let held : EntryRecord := { hostEntry 0 with phase := .stoodIn 100 true false }
    let s := withBridge (withEntry 7 1 held (withEntry 5 1 peer (inStage 1 .fenced base))) fun b =>
      { b with workList :=
        [{ entry := 5, dest := .card 1, begun := none }, { entry := 7, dest := .host 1 0, begun := none }] }
    (∀ i, (s.bridge.ort.get i).outcome = .clean) ∧ s.bridge.status 5 = .inUse 1 peer ∧
      s.bridge.status 7 = .inUse 1 held ∧
      (∃ x ∈ s.bridge.workList, x.entry = 5 ∧ x.toward 1 = true) ∧
      ¬ (∃ x ∈ s.bridge.workList, x.entry = 7 ∧ x.toward 1 = true) ∧ peer.target ≠ .slot 1 ∧
      held.target = .slot 1 ∧ (s.bridge.status 6).isInUse = false := by decide +kernel

/-- The engine serves slot 1, whose request under tag 5 is OPEN; and a slot in RESTORING and one in POWERING. -/
theorem test_hyp_LeavingTellsBlocks :
    let own : EntryRecord := { hostEntry 100 with origin := .bridge (.script 0) }
    let run : Run := { slot := 1, script := Script.default, index := 0, half := none,
                       activity := .awaitAnswer 5, retryCount := 0 }
    let s := withBridge (withEntry 5 1 own (inStage 1 .qualifying base)) fun b =>
      { b with run := some run }
    (s.bridge.slot 1).stage = .qualifying ∧ (∀ i, (s.bridge.ort.get i).outcome = .clean) ∧
      s.bridge.status 5 = .inUse 1 own ∧ own.phase = .opened 100 ∧ own.target = .slot 1 ∧
      s.bridge.run = some run ∧ s.bridge.status 6 = .free ∧
      ((inStage 2 (.powering .queued) base).bridge.slot 2).stage = .powering .queued := by
  decide +kernel

theorem test_hyp_TriggerActsByState :
    Trigger.suspicion ≠ .presenceLost ∧ Trigger.suspicion ≠ .powerLost ∧
      Trigger.headStall ≠ .presenceLost ∧ Trigger.headStall ≠ .powerLost := by decide

/-- Below the maximum attempts of 3 and at it, in the three states of an attempt. -/
theorem test_hyp_AttemptFailureTaken :
    let s := fun k stage => withSlotN 2 (fun x => { x with attempts := k }) (inStage 2 stage base)
    ((s 2 .qualifying).bridge.slot 2).stage = .qualifying ∧
      ((s 3 (.linking 0)).bridge.slot 2).stage = .linking 0 ∧
      ((s 2 .qualifying).bridge.slot 2).attempts < (base.settings.policy 2).maxAttempts ∧
      (base.settings.policy 2).maxAttempts ≤ ((s 3 (.linking 0)).bridge.slot 2).attempts := by
  decide +kernel

theorem test_hyp_LossesTaken :
    ((inStage 0 .admitted base).bridge.slot 0).stage ≠ .empty ∧
      ((inStage 0 .parked base).bridge.slot 0).stage ≠ .off := by decide +kernel

/-! ### Witnesses: lines, power and timed ends -/

/-- Slot 0 with a change of a line under way since time 0, that line's pin at its asserted or other level. -/
def changing (line : InputLine) (high filtered : Bool) (s : State) : State :=
  withSlotN 0 (fun x =>
    { x with
      pins := x.pins.set line high
      filtered := x.filtered.set line filtered
      changeStart := x.changeStart.set line (some 0) }) s

/-- PRSNT and ATTN after 20 ms, PWRGD after 1 ms, and none a microsecond before. -/
theorem test_hyp_InputLinesFiltered :
    let due := fun line high filtered t =>
      (atTime t (changing line high filtered base)).bridge.lineDue base.settings 0 line
    due .prsnt false false 20000 = some true ∧ due .prsnt true true 20000 = some false ∧
      due .attn false false 20000 = some true ∧ due .attn true true 20000 = some false ∧
      due .pwrgd true false 1000 = some true ∧ due .pwrgd false true 1000 = some false ∧
      due .prsnt false false 19999 = none ∧ due .pwrgd true false 999 = none := by decide +kernel

theorem test_hyp_PowerGoodChanges :
    let s := inStage 0 (.powering (.awaitPwrgd 0)) base
    (s.bridge.slot 0).stage = .powering (.awaitPwrgd 0) ∧
      ((withSlotN 0 (fun x => { x with watch := true }) s).bridge.slot 0).watch = true ∧
      (base.bridge.slot 0).watch = false := by decide +kernel

/-- One grant a microsecond less than 250 ms old, and two. -/
theorem test_hyp_PowerGranted :
    let s := fun h => atTime 249999 (withBridge (inStage 3 (.powering .queued) base) fun b =>
      { b with powerQueue := [3], inrush := h })
    let within := fun s : State => (s.bridge.inrush.filter fun t =>
      decide ((s.bridge.now - t).toNat < 1000 * s.settings.part.inrushWindow)).length
    (s []).bridge.powerQueue = 3 :: [] ∧ within (s [0]) = 1 ∧ within (s [0, 0]) = 2 ∧
      within (s [0xFFFFFFFF, 0]) = 1 ∧ base.settings.part.inrushCount = 2 := by decide +kernel

/-- The ends of the hold, the timeout, the warm hold, the off time and the link timeout, and a blink's half. -/
theorem test_hyp_TimedEnds :
    reached 100000 (0 + msec (base.settings.timing 0).resetHold) = true ∧
      reached 99999 (0 + msec (base.settings.timing 0).resetHold) = false ∧
      reached 100000 (0 + msec (base.settings.timing 0).powerGoodTimeout) = true ∧
      reached 250000 (0 + msec (base.settings.timing 0).offTime) = true ∧
      reached 200000 (0 + msec (base.settings.timing 0).linkTimeout) = true ∧
      (Stage.linking 0).indPattern = .blink 500 ∧ Stage.parked.indPattern = .blink 125 ∧
      reached 125000 (0 + msec 125) = true := by decide +kernel

/-! ### Witnesses: the engine and the replay -/

/-- The engine runs the default script for slot 1. -/
def running (activity : Activity) : Run :=
  { slot := 1, script := Script.default, index := 0, half := none, activity := activity,
    retryCount := 0 }

theorem test_hyp_ScriptRequestSent :
    let s := fifo 31 (withBridge (inStage 1 .qualifying base) fun b =>
      { b with run := some (running (.issueWait 0)) })
    s.bridge.run = some (running (.issueWait 0)) ∧ s.bridge.offeredEntry s.settings 1 = some 0 ∧
      (s.bridge.slot 1).egress.length < 32 ∧
      (running (.issueWait 0)).step? = some (.readExpect 0 0 0xFFFF 0xFFFF .notEqual) := by
  decide +kernel

theorem test_hyp_ScriptTimers :
    reached 1600 (0 + base.settings.slotBudget 1) = true ∧
      reached 1599 (0 + base.settings.slotBudget 1) = false ∧ reached 4000 (0 + msec 4) = true := by
  decide +kernel

theorem test_hyp_ScriptStepsJudged :
    (running (.awaitAnswer 5)).activity = .awaitAnswer 5 ∧
      (running (.awaitAnswer 5)).script.length ≤ (running (.awaitAnswer 5)).index + 1 ∧
      (running (.awaitAnswer 5)).retryCount < (running (.awaitAnswer 5)).script.retryLimit := by decide

/-- Slot 1 RESTORING with one record due. -/
def restoring (r : Replay) : State :=
  inStage 1 (.restoring r) (withSlotN 1 (fun x =>
    { x with shadow := [{ number := 383, function := 7, offset := 4092 }] }) base)

def replayOf (activity : Activity) (retryCount : Nat) : Replay :=
  { cursor := 0
    activity := activity
    copy := some { position := 0, function := 7, offset := 4092, union := 0xF, value := 1 }
    retryCount := retryCount
    retryLimit := 1
    retryInterval := 1
    sent := 0 }

theorem test_hyp_ReplayWriteSent :
    let s := fun k => restoring (replayOf (.issueWait 0) k)
    ((s 0).bridge.slot 1).stage = .restoring (replayOf (.issueWait 0) 0) ∧
      (s 0).bridge.offeredEntry (s 0).settings 1 = some 0 ∧ ((s 0).bridge.slot 1).egress.length < 32 ∧
      ((s 0).bridge.slot 1).shadow[0]? = some { number := 383, function := 7, offset := 4092 } ∧
      ((s 0).bridge.shadowWords.get 383).flips + ((s 0).bridge.shadowWords.get 383).stuck = 0 ∧
      (replayOf (.issueWait 0) 1).retryCount ≠ 0 := by decide +kernel

/-- Slot 1 QUALIFYING with its restore flag and a record, and the engine idle. -/
def qualifying (restore : Bool) : Bridge :=
  ((inStage 1 .qualifying (restoring (replayOf (.issueWait 0) 0))).bridge).modSlot 1 fun x =>
    { x with restore := restore }

/-- The only step of the default script, the end after it, and a slot QUALIFYING whose step can fail. -/
theorem test_hyp_StepBegun :
    (0 : Nat) = (0 : Fin 12).val ∧ 0 < Script.default.length ∧ Script.default.length ≤ 1 ∧
      ((qualifying true).slot 1).stage = .qualifying ∧ ((qualifying true).slot 1).restore = true ∧
      ((qualifying true).slot 1).shadow ≠ [] ∧ ((qualifying false).slot 1).restore = false ∧
      (running (.issueWait 0)).slot = 1 := by decide +kernel

/-- A slot with INCOMPLETE set under the shadow policy FAIL, and one with it clear, with a record and with none. -/
theorem test_hyp_ReplayStarts :
    let s := (qualifying true).modSlot 1 fun x => { x with incomplete := true }
    let g := base.settings.modSlot 1 fun z => { z with policy := { z.policy with shadowPolicy := .fail } }
    (s.slot 1).incomplete = true ∧ (g.policy 1).shadowPolicy = .fail ∧
      ((qualifying true).slot 1).incomplete = false ∧ ((qualifying true).slot 1).shadow ≠ [] ∧
      (base.bridge.slot 1).shadow = [] := by decide +kernel

/-- The engine, and the replay of slot 1, await the answer to a tag; entry 5 is LOST and entry 6 is not. -/
theorem test_hyp_EndOfStepSettled :
    let lose := fun b : Bridge => b.setWord 5 { b.ort.get 5 with status := .lost 1 }
    let engine := lose { base.bridge with run := some (running (.awaitAnswer 5)) }
    let replay := lose (restoring (replayOf (.awaitAnswer 5) 0)).bridge
    let waits := { qualifying true with qualQueue := [1] }
    let empty := base.settings.modSlot 1 fun z => { z with script := { z.script with length := 0 } }
    engine.status 5 = .lost 1 ∧ engine.status 6 = .free ∧
      engine.run = some (running (.awaitAnswer 5)) ∧
      replay.status 5 = .lost 1 ∧ (replay.slot 1).stage = .restoring (replayOf (.awaitAnswer 5) 0) ∧
      replay.run = none ∧ (replay.slot 0).stage = .empty ∧
      base.bridge.run = none ∧ base.bridge.qualQueue = [] ∧
      waits.run = none ∧ waits.qualQueue = 1 :: [] ∧ (waits.slot 1).stage = .qualifying ∧
      0 < (base.settings.slot 1).script.length ∧ (empty.slot 1).script.length = 0 := by decide +kernel

/-- A replay that waits to send with its record removed, and one whose record is still there. -/
theorem test_hyp_ReplayRechecked :
    let b := (restoring (replayOf (.issueWait 0) 0)).bridge
    let gone := b.removeRecord 1 0
    (gone.slot 1).stage = .restoring (replayOf (.issueWait 0) 0) ∧ (gone.slot 1).shadow.length = 0 ∧
      (replayOf (.issueWait 0) 0).cursor = 0 ∧ (replayOf (.issueWait 0) 0).retryCount = 0 ∧
      (b.slot 1).shadow.length = 1 ∧ (replayOf (.issueWait 0) 1).retryCount ≠ 0 := by decide +kernel

theorem test_hyp_EntryToParked :
    (base.bridge.slot 1).fault.parkReason = none ∧
      ({ FaultRecord.reset with parkReason := some .linkTimeout } : FaultRecord).parkReason
        = some .linkTimeout := ⟨rfl, rfl⟩

theorem test_hyp_ReplayAnswersJudged :
    let b := (restoring (replayOf (.awaitAnswer 5) 0)).bridge
    (b.slot 1).stage = .restoring (replayOf (.awaitAnswer 5) 0) ∧
      (replayOf (.awaitAnswer 5) 0).cursor < (b.slot 1).shadow.length ∧
      (replayOf (.awaitAnswer 5) 0).retryCount < (replayOf (.awaitAnswer 5) 0).retryLimit ∧
      (replayOf (.awaitAnswer 5) 1).retryLimit ≤ (replayOf (.awaitAnswer 5) 1).retryCount := by
  decide +kernel

/-- A write on the slot's first bus for the key of a record in its list: not taken by the replay and taken, clean, with one
bad bit and with two. -/
theorem test_hyp_ShadowMergesHeldKey :
    let s := fun cursor => restoring { replayOf (.issueWait 0) 0 with cursor := cursor }
    let g := (bused none).settings
    let word : Nat → ShadowWord := fun n => { union := 0xF, value := 1, flips := n, stuck := 0 }
    let bad := fun n => ((s 0).bridge.shadowWords.set 383 (word n)).get 383
    (g.slot 1).busRange.valid = true ∧ (4 : BitVec 8) = (g.slot 1).busRange.first ∧
      g.excluded 1 4092 = false ∧
      ((s 1).bridge.slot 1).shadow = [] ++ { number := 383, function := 7, offset := 4092 } :: [] ∧
      ((s 1).bridge.slot 1).stage
        = .restoring { replayOf (.issueWait 0) 0 with cursor := 1 } ∧
      ([] : List ShadowKey).length < 1 ∧ (bad 0).flips + (bad 0).stuck ≤ 1 ∧
      (bad 1).flips + (bad 1).stuck ≤ 1 ∧ 2 ≤ (bad 2).flips + (bad 2).stuck ∧
      (s 0).bridge.lowestFreeRecord = some 0 := by decide +kernel

/-- A write on the slot's first bus: a new key, a key in the list, an excluded offset. -/
theorem test_hyp_ShadowKeepsNewKey :
    let s := restoring (replayOf (.issueWait 0) 0)
    let g := (bused none).settings
    let range : Exclusion := { first := 0x10, last := 0x10, valid := true }
    let out := g.modSlot 1 fun z => { z with exclusions := z.exclusions.set 3 range }
    (g.slot 1).busRange.valid = true ∧ (4 : BitVec 8) = (g.slot 1).busRange.first ∧
      g.excluded 1 0x10 = false ∧ out.excluded 1 0x10 = true ∧
      (∀ x ∈ (s.bridge.slot 1).shadow, ¬ (x.function = 0 ∧ x.offset = 0x10)) ∧
      (s.bridge.slot 1).shadow.length < (g.policy 1).shadowLimit ∧
      s.bridge.lowestFreeRecord = some 0 := by decide +kernel

/-- Fewer than 384 records, a list below its limit, and a list with a record that can be removed, under the law. -/
theorem test_hyp_FreeRecordTaken :
    let s := restoring (replayOf (.issueWait 0) 0)
    ShadowLaw s ∧ (s.bridge.slot 1).shadow.length < (s.settings.policy 1).shadowLimit ∧
      0 < (s.bridge.slot 1).shadow.length ∧
      sumSlots (fun n => (s.bridge.slot n).shadow.length) < 384 :=
  ⟨⟨test_hyp_StepKeepsSettingsLaw, by decide +kernel⟩, by decide +kernel, by decide +kernel,
    by decide +kernel⟩

/-- The first and the last offset of a valid range, the offset behind it, and the same range when it is not valid. -/
theorem test_hyp_ExclusionRanges :
    let out := fun valid => base.settings.modSlot 1 fun z =>
      { z with exclusions := z.exclusions.set 0 { first := 0x10, last := 0x18, valid := valid } }
    (out true).excluded 1 0x10 = true ∧ (out true).excluded 1 0x18 = true ∧
      (out true).excluded 1 0x0C = false ∧ (out true).excluded 1 0x1C = false ∧
      (out false).excluded 1 0x10 = false := by decide +kernel

/-! ### Witnesses: the management commands -/

theorem test_hyp_CommandAtHead :
    (submitted [0x00120301] base).mgmt.headCell = some (3, args [0x00120301]) ∧
      opcodeOf (args [0x00120301]) = 0x01 ∧ slotOf (args [0x00120301]) = some 3 ∧
      tagField (args [0x00120301]) = 0x12 := by decide +kernel

theorem test_hyp_BadOpcodeAndSlotRefused :
    opcodeOf (args [0x00]) ∉ knownOpcodes ∧ opcodeOf (args [0x27]) ∉ knownOpcodes ∧
      4 ≤ slotField (args [0x0401]) ∧ 4 ≤ slotField (args [0x0F26]) := by decide +kernel

/-- A window of one page fits; a base off its boundary, a limit off it and a limit below the base do not; index 47
is the last. -/
theorem test_hyp_WindowCommands :
    let w := fun base limit => windowOf (args [0x01, 47, base, 0, limit, 0]) 0
    let fits := fun w : Window => w.base.toNat % 4096 = 0 ∧ w.limit.toNat % 4096 = 4095 ∧
      w.base.toNat ≤ w.limit.toNat
    fits (w 0x20000 0x20FFF) ∧ ¬ fits (w 0x20004 0x20FFF) ∧ ¬ fits (w 0x20000 0x20FFE) ∧
      ¬ fits (w 0x21000 0x20FFF) ∧ Window.conflicts win (w 0x20000 0x20FFF) = true ∧
      Window.conflicts win (w 0x21000 0x21FFF) = false ∧ windowIndex (args [0x01, 47]) = 47 ∧
      48 ≤ windowIndex (args [0x01, 48]) := by decide +kernel

theorem test_hyp_BusRangeCommand :
    let x := fun w => busRangeOf (args [0x03, w])
    let shares := fun y : BusRange => (4 : BitVec 8).toNat ≤ y.last.toNat ∧ y.first.toNat ≤ (6 : BitVec 8).toNat
    (x 0x10303).first.toNat ≤ (x 0x10303).last.toNat ∧ ¬ (x 0x10304).first.toNat ≤ (x 0x10304).last.toNat ∧
      shares (x 0x10606) ∧ ¬ shares (x 0x10707) ∧ ¬ shares (x 0x10303) := by decide +kernel

/-- The lowest and the highest timings that fit, and one that does not at each end. -/
theorem test_hyp_SlotTimingCommand :
    let fits := fun ws => SlotTiming.fits (timingOf (args (0x04 :: ws)))
    fits [0x0000, 0x000A0001, 0x0064000A] = true ∧
      fits [0x0F0F, 0x03E803E8, 0x07D001F4] = true ∧
      fits [0x0010, 0x000A0001, 0x0064000A] = false ∧ fits [0x1000, 0x000A0001, 0x0064000A] = false ∧
      fits [0x0000, 0x000A0000, 0x0064000A] = false ∧ fits [0x0000, 0x00090001, 0x0064000A] = false ∧
      fits [0x0F0F, 0x03E903E8, 0x07D001F4] = false ∧ fits [0x0F0F, 0x03E803E8, 0x07D101F4] = false ∧
      fits [0x0F0F, 0x03E803E8, 0x07D001F5] = false := by decide +kernel

/-- The same for the policies; quotas of 48 and limits of 96 leave room, limits of 384 do not. -/
theorem test_hyp_SlotPolicyCommand :
    let fits := fun ws => SlotPolicy.fits (policyOf (args (0x05 :: ws)))
    fits [0x110, 0] = true ∧ fits [0x770, 0x01800030] = true ∧ fits [0x880, 0] = false ∧
      fits [0x010, 0] = false ∧ fits [0x110, 0x31] = false ∧ fits [0x110, 0x01810000] = false ∧
      base.bridge.accountsExceed base.settings 0 48 = false ∧
      base.bridge.limitsExceed base.settings 0 96 = false ∧
      base.bridge.limitsExceed base.settings 0 97 = true := by decide +kernel

theorem test_hyp_PartPolicyCommand :
    let fits := fun ws => PartPolicy.fits (partPolicyOf (args (0x06 :: ws)))
    fits [0x00321040, 0x00010100, 10] = true ∧ fits [0x03E84100, 0x0F64FFFF, 1000] = true ∧
      fits [0x00320040, 0x00010100, 10] = false ∧ fits [0x00321041, 0x00010100, 10] = false ∧
      fits [0x00321040, 0x10010100, 10] = false ∧ fits [0x00321040, 0x00010100, 9] = false ∧
      (alertOf (args [6, 0, 0, 0, 4, 0])).address.toNat % 4 = 0 := by decide +kernel

/-- A WAIT of 1 ms at position 11 fits; a WAIT of 0, a kind of 4 and an offset off its boundary do not; a script of
12 steps fits with an interval of 1; an exclusion of one dword in order. -/
theorem test_hyp_ScriptAndExclusionCommands :
    let step := fun ws => stepOf (args (0x08 :: ws))
    step [0x0100003B, 0] = some (.wait 1) ∧ step [0x0000003B, 0] = some (.wait 0) ∧
      step [0x0000004B, 0] = none ∧ offsetFits 4092 = true ∧ offsetFits 4094 = false ∧
      offsetFits 4096 = false ∧ bitField (0x0001000C) 0 8 = 12 ∧
      exclusionFits (args [0x0A, 0x103, 0x0FFC0FFC]) = true ∧
      exclusionFits (args [0x0A, 0x103, 0x0FF80FFC]) = false ∧
      exclusionFits (args [0x0A, 0x003, 0x0FF80FFC]) = true ∧
      exclusionFits (args [0x0A, 0x104, 0x0FFC0FFC]) = false := by decide +kernel

/-- Every stage of a slot can stand in it. -/
theorem test_hyp_stages (n : SlotId) (stage : Stage) : ((inStage n stage base).bridge.slot n).stage = stage := by
  simp [inStage, withSlotN, withBridge, onBridge]

theorem test_hyp_ReadCommands :
    ((args [0x20, 4]).get 1).extractLsb' 0 4 = 4 ∧ ((args [0x20, 5]).get 1).extractLsb' 0 4 = 5 ∧
      (((args [0x21, 255]).get 1).extractLsb' 0 16).toNat = (255 : BridgeTag).val ∧
      255 < (((args [0x21, 256]).get 1).extractLsb' 0 16).toNat ∧
      ((restoring (replayOf (.issueWait 0) 0)).bridge.slot 1).shadow[0]?
        = some { number := 383, function := 7, offset := 4092 } ∧
      383 < (((args [0x22, 384]).get 1).extractLsb' 0 16).toNat := by decide +kernel

/-- The places that the pages of READ-SLOT show of a queue, an engine, a result and a replay. -/
theorem test_hyp_ReadSlotPages :
    ((1 : SlotId) ∉ ([3, 0] : List SlotId)) ∧ ([3, 0] : List SlotId) = [3] ++ 0 :: [] ∧
      (running (.issueWait 0)).slot = 1 ∧ (∀ r, base.bridge.run = some r → r.slot ≠ 1) ∧
      (base.bridge.slot 1).qualResult = none ∧ (base.bridge.slot 1).replayResult = none ∧
      ((restoring (replayOf (.issueWait 0) 0)).bridge.slot 1).stage
        = .restoring (replayOf (.issueWait 0) 0) := by
  refine ⟨by decide, rfl, rfl, ?_, rfl, rfl, by decide +kernel⟩
  intro r h
  have idle : base.bridge.run = none := rfl
  rw [idle] at h
  cases h

theorem test_hyp_ErrorLogWords :
    ErrorLog.reset.latched = none ∧
      ({ ErrorLog.reset with latched := some { word := .ort 255, slot := 3, event := .itemLeft, time := 9 } }
        : ErrorLog).words = [0x00FF0391, 0, 9, 0] ∧
      ({ ErrorLog.reset with
          latched := some { word := .shadow 383 7 4092, slot := 3, event := .merge, time := 9 }
          overflow := 255, corrected := 65535, announced := true } : ErrorLog).words
        = [0x017F0363, 0x0FFC0007, 9, 0xFFFF01FF] := by decide

theorem test_hyp_ShadowCommands :
    let key := fun x : ShadowKey => x.function.toNat = 7 ∧ x.offset.toNat = 4092
    key { number := 383, function := 7, offset := 4092 } ∧
      (∀ x ∈ (base.bridge.slot 1).shadow, ¬ key x) ∧ offsetFits 4095 = false := by decide +kernel

/-! ### One step of a few commands -/

/-- POWER-ON in OFF ends DONE with its tag, the slot in POWERING and queued for a grant. -/
theorem test_powerOn :
    let s := submitted [0x00550010, 1] (withSlotN 0 (fun x => { x with stage := .off }) base)
    ∃ t, step { s with pending := [.powerOn] } = .next t ∧ (t.bridge.slot 0).stage = .powering .queued ∧
      (t.bridge.slot 0).restore = true ∧ t.bridge.powerQueue = [0] ∧ t.mgmt.queue = [] ∧
      (t.mgmt.cells.get 3).state = .done ∧ (t.mgmt.cells.get 3).echo = 0x55 :=
  ⟨_, rfl, by decide +kernel⟩

/-- A configuration read for slot 1, not ADMITTED, that waits at the head keeps the answer ONES across a SET-SLOT-POLICY
that sets ERROR, and the next one to reach the head takes ERROR. -/
theorem test_head_keeps_config_answer :
    let s := submitted [0x00000105, 0x00002110, 0] (toSlot cfgReadOf (inStage 1 .fenced base))
    ∃ t, exec .setSlotPolicy s = .next t ∧ (t.settings.policy 1).configAnswer = .error ∧
      t.bridge.headConfig t.settings 1 = .ones ∧ t.bridge.popUpstream.headConfig t.settings 1 = .error :=
  ⟨_, rfl, by decide +kernel⟩

/-- A read queued for card 1 under bus 0 leaves under the bus number taken since. -/
theorem test_sent_under_present_id :
    let s := withSlotN 1 (fun x =>
      { x with
        linkUp := true
        egress := [{ source := .traffic, txn := .request (request (readOf 0 4)) }] })
      (inStage 1 .admitted (bused (some 2)))
    ∃ t, exec (.egressFifoSend 1) s = .next t ∧ (t.bridge.slot 1).cardOut = some (.request
      { request (readOf 0 4) with id := { bus := 2, device := 0, function := 0 } }) :=
  ⟨_, rfl, by decide +kernel⟩

/-- A read of the identity word of the management function. -/
theorem test_mgmtCfgRead :
    ∃ t, exec .mgmtCfgRead (toMgmt (.cfgRead { target with offset := 0 } 4 0xF) 0) = .next t ∧
      t.bridge.bridgeQueue = [.completion
        { status := .success, id := { bus := 7, device := 1, function := 2 }, tag := 9, remaining := 4,
          lower := 0, data := [0xA1, 0xC4, 0x04, 0x41] }] :=
  ⟨_, rfl, by decide +kernel⟩

/-- The stand-in of a read of 8 bytes at 0x1000 is one piece of ones. -/
theorem test_standIn :
    ∃ t, exec .standInHandOn listed = .next t ∧ t.bridge.bridgeQueue = [.completion
        { status := .success, id := { bus := 7, device := 1, function := 2 }, tag := 9, remaining := 8,
          lower := 0, data := List.replicate 8 0xFF }] ∧
      (t.bridge.slot 1).fault.standInPieces = 1 :=
  ⟨_, rfl, by decide +kernel⟩

end Sys2Proof.Tests
end

section
/-! PROOFS. The wrap-safe test of time (R51 to R53): when it answers, what moving either of its two times does to
the answer, and the counts that a budget code and a number of milliseconds stand for. -/

namespace Sys2Proof.Machine

open Sys2Proof

/-- A count below the wrap stands in the timebase as itself. -/
theorem toNat_ofNat_of_lt {n : Nat} (hn : n < 2 ^ 32) : (BitVec.ofNat 32 n : Time).toNat = n := by
  rw [BitVec.toNat_ofNat, Nat.mod_eq_of_lt hn]

/-- The test goes by the time elapsed since `t`, taken in the 32-bit timebase. -/
theorem reached_iff_elapsed (now t : Time) : reached now t = true ↔ (now - t).toNat < 2 ^ 31 :=
  decide_eq_true_iff

theorem not_reached_iff_elapsed (now t : Time) :
    reached now t = false ↔ 2 ^ 31 ≤ (now - t).toNat := by
  rw [← Bool.not_eq_true, reached_iff_elapsed, Nat.not_lt]

theorem elapsed_toNat (now t : Time) :
    (now - t).toNat = (now.toNat + 2 ^ 32 - t.toNat) % 2 ^ 32 := by
  rw [BitVec.toNat_sub', Nat.add_sub_assoc (Nat.le_of_lt t.isLt) now.toNat]

@[simp] theorem reached_self (t : Time) : reached t t = true := by
  simp [reached_iff_elapsed]

/-- Before a time `d` ahead, the elapsed time wraps round to `2 ^ 32 - d`, in the upper half of the timebase. -/
theorem not_reached_ahead (now : Time) {d : Nat} (hpos : 0 < d) (hd : d < 2 ^ 31) :
    reached now (now + BitVec.ofNat 32 d) = false := by
  have hwrap : (now - (now + BitVec.ofNat 32 d)).toNat = 2 ^ 32 - d := by
    have hneg : now - (now + BitVec.ofNat 32 d) = -BitVec.ofNat 32 d := by bv_omega
    rw [hneg, BitVec.toNat_neg, toNat_ofNat_of_lt (by omega)]
    exact Nat.mod_eq_of_lt (by omega)
  rw [not_reached_iff_elapsed, hwrap]
  omega

/-- While the elapsed time stays below the wrap, `d` later it is `d` more. -/
theorem elapsed_add (now t : Time) {d : Nat} (hd : (now - t).toNat + d < 2 ^ 32) :
    (now + BitVec.ofNat 32 d - t).toNat = (now - t).toNat + d := by
  have hcomm : now + BitVec.ofNat 32 d - t = (now - t) + BitVec.ofNat 32 d := by bv_omega
  have hofNat : (BitVec.ofNat 32 d).toNat = d := toNat_ofNat_of_lt (by omega)
  rw [hcomm, BitVec.toNat_add_of_lt (by rwa [hofNat]), hofNat]

/-- A reached time stays reached until `2 ^ 31` have passed since it; that it is reached now follows from the bound. -/
theorem reached_add {now t : Time} {d : Nat} (hd : (now - t).toNat + d < 2 ^ 31) :
    reached (now + BitVec.ofNat 32 d) t = true := by
  rw [reached_iff_elapsed, elapsed_add now t (by omega)]
  exact hd

/-- The budgets of R53: the greatest, 50 times 1024, is far below the wrap. -/
theorem budget_toNat {k : Nat} (hk : k ≤ 10) : (budget k).toNat = 50 * 2 ^ k := by
  have hpow : 2 ^ k ≤ 2 ^ 10 := Nat.pow_le_pow_right (by decide) hk
  exact toNat_ofNat_of_lt (by omega)

/-- Milliseconds are exact as long as the count fits the timebase. -/
theorem msec_toNat {n : Nat} (hn : 1000 * n < 2 ^ 32) : (msec n).toNat = 1000 * n :=
  toNat_ofNat_of_lt hn

/-- Settles O37: each clause is one of the laws of the test, the budget or the milliseconds above. -/
theorem timeTest : Obligations.TimeTest := by
  unfold Obligations.TimeTest
  refine ⟨fun now t => ?test, fun now d hpos hd => ⟨not_reached_ahead now hpos hd, reached_self _⟩,
    fun now t d _ hd => reached_add hd, fun k hk => budget_toNat hk,
    fun n hn => msec_toNat (by omega)⟩
  case test => rw [reached_iff_elapsed, elapsed_toNat]

end Sys2Proof.Machine
end

section
/-! PROOFS. The default script (R133): which scripts the two resets leave, and when its one step passes. -/

namespace Sys2Proof.Machine

open Sys2Proof

/-! ### The two resets -/

theorem exec_powerOnReset (s : State) : exec .powerOnReset s = execPowerOnReset s := rfl

theorem exec_upstreamReset (s : State) : exec .upstreamReset s = execUpstreamReset s := rfl

/-- Power-on reset gives every slot the same defaults (spec/00, Table 5). -/
@[simp] theorem Settings.slot_reset (n : SlotId) : Settings.reset.slot n = SlotSettings.reset :=
  Vector.getElem_replicate n.isLt

/-- An upstream reset changes only what is not of one slot. -/
@[simp] theorem Settings.slot_upstreamReset (g : Settings) (n : SlotId) :
    g.upstreamReset.slot n = g.slot n := rfl

/-! ### The positions of the default script -/

@[simp] theorem Script.default_get_zero :
    Script.default.steps.get 0 = .readExpect 0 0 0x0000FFFF 0x0000FFFF .notEqual :=
  get_set_self _ 0 _

theorem Script.default_get_ne_zero {k : Fin 12} (hk : k ≠ 0) : Script.default.steps.get k = .wait 1 := by
  have hkept : Script.default.steps.get k = (Vector.replicate 12 (ScriptStep.wait 1)).get k :=
    get_set_ne _ _ hk
  rw [hkept]
  exact Vector.getElem_replicate k.isLt

/-! ### The default step -/

/-- A READ-EXPECT under NOT-EQUAL passes when the masked words differ (R137). -/
theorem Bridge.scriptSuccess_notEqual (b : Bridge) (g : Settings) (r : Run) (f : BitVec 3)
    (o : BitVec 12) (mask value word : Word) :
    b.scriptSuccess g r (.readExpect f o mask value .notEqual) word
      = if word &&& mask ≠ value &&& mask then b.stepPass g r
        else b.stepFail g r .mismatch (some word) := by
  by_cases h : word &&& mask = value &&& mask
  · simp [Bridge.scriptSuccess, h]
  · simp [Bridge.scriptSuccess, h]

/-- The mask 0x0000FFFF keeps the low 16 bits alone: as a number it takes the word modulo 2 ^ 16. -/
theorem and_low16_eq_iff (x y : Word) :
    x &&& 0x0000FFFF = y &&& 0x0000FFFF ↔ x.extractLsb' 0 16 = y.extractLsb' 0 16 := by
  have hmask (z : Word) : (z &&& 0x0000FFFF).toNat = z.toNat % 2 ^ 16 :=
    (BitVec.toNat_and z 0x0000FFFF).trans (Nat.and_two_pow_sub_one_eq_mod z.toNat 16)
  have hlow (z : Word) : (z.extractLsb' 0 16).toNat = z.toNat % 2 ^ 16 :=
    BitVec.extractLsb'_toNat 0 16 z
  rw [← BitVec.toNat_inj, ← BitVec.toNat_inj, hmask, hmask, hlow, hlow]

/-- Settles O4: the defaults are read back from the reset values, an upstream reset leaves the settings of every slot,
and the default step's mask compares the low 16 bits. -/
theorem defaultScriptAfterPowerOn : Obligations.DefaultScriptAfterPowerOn := by
  unfold Obligations.DefaultScriptAfterPowerOn
  refine ⟨fun s => ⟨_, exec_powerOnReset s, fun n => ?default⟩,
    fun s => ⟨_, exec_upstreamReset s, fun n => ?kept⟩, fun b g r word => ?step⟩
  case default =>
    have hscript : (Settings.reset.slot n).script = Script.default := by
      rw [Settings.slot_reset]
      rfl
    rw [hscript]
    exact ⟨rfl, rfl, rfl, Script.default_get_zero, fun k hk => Script.default_get_ne_zero hk⟩
  case kept => rw [Settings.slot_upstreamReset]
  case step =>
    have hlow : word &&& 0x0000FFFF ≠ 0x0000FFFF &&& 0x0000FFFF ↔ word.extractLsb' 0 16 ≠ 0xFFFF :=
      not_congr (and_low16_eq_iff word 0x0000FFFF)
    rw [Bridge.scriptSuccess_notEqual]
    simp only [hlow]

end Sys2Proof.Machine
end

section
/-! PROOFS. The alert word and the management aperture (R174, R196): the fields of the word, the bytes of a write's
payload, what the aperture reads of the state, and what the forming of an alert write changes. -/

namespace Sys2Proof.Machine

open Sys2Proof

/-! ### A word and its bytes -/

/-- Two neighbouring runs of bits, put together again. -/
theorem byteOf_append (w : Word) {len k : Nat} :
    w.extractLsb' (8 * (k + 1)) len ++ byteOf w k = w.extractLsb' (8 * k) (len + 8) :=
  BitVec.extractLsb'_append_extractLsb'_eq_extractLsb' (Nat.mul_succ 8 k)

@[simp] theorem bytesOf_length (w : Word) : (bytesOf w).length = 4 := rfl

/-- The four bytes of a word give the word back. -/
@[simp] theorem wordOf_bytesOf (w : Word) : wordOf (bytesOf w) = w := by
  calc wordOf (bytesOf w)
      = w.extractLsb' (8 * 3) 8 ++ byteOf w 2 ++ byteOf w 1 ++ byteOf w 0 := rfl
    _ = w.extractLsb' (8 * 0) 32 := by rw [byteOf_append, byteOf_append, byteOf_append]
    _ = w := BitVec.extractLsb'_eq_self

/-! ### The low byte of the alert word -/

theorem SlotAlert.code_lt (k : SlotAlert) : k.code < 32 := by
  cases k <;> decide

theorem PartAlert.code_lt (k : PartAlert) : k.code < 32 := by
  cases k <;> decide

/-- A part kind stands in the low byte as a kind of slot 0 would. -/
theorem AlertPair.lowByte_part (k : PartAlert) : (AlertPair.part k).lowByte = 64 * 0 + k.code := by
  rw [Nat.mul_zero, Nat.zero_add]
  rfl

theorem lowByte_code (slot code : Nat) :
    (BitVec.ofNat 8 (64 * slot + code)).extractLsb' 0 5 = BitVec.ofNat 5 code := by
  apply BitVec.eq_of_toNat_eq
  simp only [BitVec.extractLsb'_toNat, BitVec.toNat_ofNat, Nat.shiftRight_zero]
  omega

theorem lowByte_bit5 (slot : Nat) {code : Nat} (hcode : code < 32) :
    (BitVec.ofNat 8 (64 * slot + code)).getLsbD 5 = false := by
  rw [BitVec.getLsbD, BitVec.toNat_ofNat, Nat.testBit_eq_decide_div_mod_eq, decide_eq_false_iff_not]
  omega

theorem lowByte_slot (slot : Nat) {code : Nat} (hcode : code < 32) :
    (BitVec.ofNat 8 (64 * slot + code)).extractLsb' 6 2 = BitVec.ofNat 2 slot := by
  apply BitVec.eq_of_toNat_eq
  simp only [BitVec.extractLsb'_toNat, BitVec.toNat_ofNat, Nat.shiftRight_eq_div_pow]
  omega

/-! ### The fields of the alert word (Table 10-7) -/

/-- Bits within the low byte of the alert word are the low byte's. -/
theorem AlertPair.word_extract_low (p : AlertPair) (data : Word) {lo len : Nat} (h : lo + len ≤ 8) :
    (p.word data).extractLsb' lo len = (BitVec.ofNat 8 p.lowByte).extractLsb' lo len :=
  BitVec.extractLsb'_append_eq_of_add_le h

/-- The upper 24 bits of the alert word are those of the alert data. -/
theorem AlertPair.word_extract_data (p : AlertPair) (data : Word) :
    (p.word data).extractLsb' 8 24 = data.extractLsb' 8 24 :=
  BitVec.extractLsb'_append_eq_left

/-- The fields of the alert word of a pair whose low byte holds `slot` and `code`. -/
theorem AlertPair.word_fields {p : AlertPair} {slot code : Nat} (data : Word)
    (hlow : p.lowByte = 64 * slot + code) (hcode : code < 32) :
    (p.word data).extractLsb' 0 5 = BitVec.ofNat 5 code ∧ (p.word data).getLsbD 5 = false ∧
      (p.word data).extractLsb' 6 2 = BitVec.ofNat 2 slot ∧
      (p.word data).extractLsb' 8 24 = data.extractLsb' 8 24 := by
  have hbit : (p.word data).getLsbD 5 = (BitVec.ofNat 8 p.lowByte).getLsbD 5 :=
    BitVec.getLsbD_append.trans (if_pos (by decide))
  refine ⟨?code, ?bit5, ?slot, p.word_extract_data data⟩
  case code => rw [p.word_extract_low data (by decide), hlow, lowByte_code]
  case bit5 => rw [hbit, hlow, lowByte_bit5 slot hcode]
  case slot => rw [p.word_extract_low data (by decide), hlow, lowByte_slot slot hcode]

/-! ### The aperture and the forming of an alert write -/

/-- All that the aperture reads: the cells and the collisions, of the slots the states and the flags, and the part's
flags, table and counts (Tables 10-2 and 10-8). -/
theorem State.apertureWord_congr {s t : State} (hmgmt : t.mgmt = s.mgmt)
    (hslots : t.bridge.slots = s.bridge.slots) (hflags : t.bridge.partFlags = s.bridge.partFlags)
    (hort : t.bridge.ort = s.bridge.ort) (hunrouted : t.bridge.unrouted = s.bridge.unrouted)
    (hunexpected : t.bridge.unexpected = s.bridge.unexpected) (w : Nat) :
    t.apertureWord w = s.apertureWord w := by
  have hslot (n : SlotId) : t.bridge.slotSummary n = s.bridge.slotSummary n := by
    simp only [Bridge.slotSummary, Bridge.slot_congr hslots]
  have hlost : t.bridge.lostCount = s.bridge.lostCount := by
    simp only [Bridge.lostCount, Bridge.status, hort]
  have hsummary (k : Nat) : t.summaryWord k = s.summaryWord k := by
    simp only [State.summaryWord, hslot, hlost, hmgmt, hflags, hunrouted, hunexpected]
  simp only [State.apertureWord, hmgmt, hsummary]

theorem exec_alertWriteForm (s : State) : exec .alertWriteForm s = s.act Bridge.formAlert := rfl

/-- Forming an alert write changes the send list, the draws and the bridge-origin queue alone. -/
theorem Bridge.formAlert_frame (b : Bridge) (g : Settings) :
    ∃ sendList env queue,
      b.formAlert g = { b with sendList := sendList, env := env, bridgeQueue := queue } := by
  unfold Bridge.formAlert
  split
  · split
    · split
      · exact ⟨_, _, _, rfl⟩
      · exact ⟨_, b.env, b.bridgeQueue, rfl⟩
    · exact ⟨b.sendList, b.env, b.bridgeQueue, rfl⟩
  · exact ⟨b.sendList, b.env, b.bridgeQueue, rfl⟩

/-- The aperture holds nothing of an alert write (R196). -/
theorem apertureWord_alertWriteForm {s t : State} (h : exec .alertWriteForm s = .next t) (w : Nat) :
    t.apertureWord w = s.apertureWord w := by
  rw [exec_alertWriteForm] at h
  obtain rfl := State.act_next h
  obtain ⟨_, _, _, hframe⟩ := s.bridge.formAlert_frame s.settings
  rw [hframe]
  apply State.apertureWord_congr <;> rfl

/-- Settles O35: each kind's code is below 32, so the low byte keeps code and slot apart; the four payload bytes give
the word back; and the forming writes nothing that the aperture reads. -/
theorem alertWordLayout : Obligations.AlertWordLayout := by
  unfold Obligations.AlertWordLayout
  refine ⟨fun data n k => ?slotKind, fun data k => ?partKind, fun g p draw => ?payload,
    fun s t w h => apertureWord_alertWriteForm h w⟩
  case slotKind =>
    obtain ⟨hcode, hrest⟩ := AlertPair.word_fields (p := .slot n k) data rfl k.code_lt
    exact ⟨hcode.trans (by cases k <;> rfl), hrest⟩
  case partKind =>
    obtain ⟨hcode, hrest⟩ := AlertPair.word_fields data (AlertPair.lowByte_part k) k.code_lt
    exact ⟨hcode.trans (by cases k <;> rfl), hrest⟩
  case payload =>
    exact ⟨g.alert.address, 0xF, 0, bytesOf (p.word g.alert.data), rfl, bytesOf_length _,
      wordOf_bytesOf _⟩

end Sys2Proof.Machine
end

section
/-! PROOFS. What the laws of the state ask of the bridge, the relation `Calm` of two bridges between which every law but
those of the sequencers' own records is kept, and the operations within it. -/

namespace Sys2Proof.Machine

open Sys2Proof Sys2Proof.Safety

/-! ### The laws of the bridge -/

/-- The law of the rooms, of the bridge alone. -/
def Roomy (b : Bridge) : Prop :=
  b.upIngress.length ≤ 64 ∧ b.bridgeQueue.length ≤ 64 ∧ b.inrush.length ≤ 4 ∧
    ∀ n : SlotId, (b.slot n).egress.length ≤ 32 ∧ (b.slot n).ingress.length ≤ 32 ∧
      (b.slot n).upQueue.length ≤ 32

theorem roomLaw_iff (s : State) : RoomLaw s ↔ Roomy s.bridge := Iff.rfl

/-- The counters of a slot lie within their maxima. -/
def SlotCounted (s : Slot) : Prop := FaultLaw s.fault ∧ s.suspicion ≤ 15

/-- The law of the counters, of the bridge alone. -/
def Counted (b : Bridge) : Prop :=
  b.unrouted ≤ 65535 ∧ b.unexpected ≤ 65535 ∧ b.log.corrected ≤ 65535 ∧ b.log.overflow ≤ 255 ∧
    ∀ n : SlotId, SlotCounted (b.slot n)

theorem counterLaw_iff (s : State) : CounterLaw s ↔ Counted s.bridge := Iff.rfl

/-- The law of the shadow's lists under given limits, of the lists alone. -/
def ListsFit (limit : SlotId → Nat) (lists : SlotId → List ShadowKey) : Prop :=
  ∀ n : SlotId, (lists n).length ≤ limit n ∧
    ((lists n).map fun x => (x.function, x.offset)).Nodup ∧ ((lists n).map ShadowKey.number).Nodup ∧
    ∀ m : SlotId, m ≠ n → ∀ x ∈ lists m, ∀ y ∈ lists n, x.number ≠ y.number

/-- The law of the shadow under the present limits. -/
def Shadowed (g : Settings) (b : Bridge) : Prop :=
  ListsFit (fun n => (g.policy n).shadowLimit) fun n => (b.slot n).shadow

theorem shadowLaw_iff (s : State) :
    ShadowLaw s ↔ SettingsLaw s ∧ Shadowed s.settings s.bridge := Iff.rfl

/-- The quotas of the four slots. -/
def Settings.quotas (g : Settings) : SlotId → Nat := fun n => (g.policy n).quota

/-- The law of the accounts under the present quotas. -/
def Pooled (g : Settings) (b : Bridge) : Prop := b.poolUse g.quotas ≤ sharedPool g.quotas

theorem poolLaw_iff (s : State) : PoolLaw s ↔ SettingsLaw s ∧ Pooled s.settings s.bridge := Iff.rfl

/-! ### The accounts (spec/02, R27, R28) -/

/-- No index counts against an account in `c` that it did not count against in `b`. -/
def AccountsLe (b c : Bridge) : Prop :=
  ∀ i : BridgeTag, (c.status i).account = (b.status i).account ∨ (c.status i).account = none

theorem AccountsLe.refl (b : Bridge) : AccountsLe b b := fun _ => .inl rfl

theorem AccountsLe.trans {b c d : Bridge} (h : AccountsLe b c) (k : AccountsLe c d) :
    AccountsLe b d := fun i => by
  rcases k i with e | e
  · rw [e]; exact h i
  · exact .inr e

theorem AccountsLe.of_ort {b c : Bridge} (h : c.ort = b.ort) : AccountsLe b c := fun i =>
  .inl (by simp only [Bridge.status, h])

theorem AccountsLe.inUseCount_le {b c : Bridge} (h : AccountsLe b c) (n : SlotId) :
    c.inUseCount n ≤ b.inUseCount n := by
  unfold Bridge.inUseCount
  rw [← List.countP_eq_length_filter, ← List.countP_eq_length_filter]
  refine List.countP_mono_left fun i _ hi => ?_
  rcases h i with e | e
  · rw [← e]; exact hi
  · simp [e] at hi

theorem sharedUse_le {b c : Bridge} {quota : SlotId → Nat}
    (h : ∀ n, c.inUseCount n ≤ b.inUseCount n) : c.poolUse quota ≤ b.poolUse quota :=
  sumSlots_le fun n => Nat.sub_le_sub_right (h n) (quota n)

theorem AccountsLe.pooled {b c : Bridge} (g : Settings) (h : AccountsLe b c) :
    Pooled g b → Pooled g c := fun hb => Nat.le_trans (sharedUse_le h.inUseCount_le) hb

/-! ### Calm operations -/

/-- Between `b` and `c` the laws of the rooms, the counters, the shadow and the accounts are kept. -/
structure Stores (g : Settings) (b c : Bridge) : Prop where
  rooms : Roomy b → Roomy c
  counters : Counted b → Counted c
  shadow : Shadowed g b → Shadowed g c
  pool : Pooled g b → Pooled g c

theorem Stores.refl (g : Settings) (b : Bridge) : Stores g b b := ⟨id, id, id, id⟩

theorem Stores.trans {g : Settings} {b c d : Bridge} (h : Stores g b c) (k : Stores g c d) :
    Stores g b d :=
  ⟨k.rooms ∘ h.rooms, k.counters ∘ h.counters, k.shadow ∘ h.shadow, k.pool ∘ h.pool⟩

/-- Between `b` and `c` those laws are kept, and the queues of slots and the served slot are as they were. -/
structure Calm (g : Settings) (b c : Bridge) : Prop extends Stores g b c where
  powerQueue : c.powerQueue = b.powerQueue
  qualQueue : c.qualQueue = b.qualQueue
  served : served c = served b

theorem Calm.refl (g : Settings) (b : Bridge) : Calm g b b := ⟨.refl g b, rfl, rfl, rfl⟩

theorem Calm.trans {g : Settings} {b c d : Bridge} (h : Calm g b c) (k : Calm g c d) : Calm g b d where
  toStores := h.toStores.trans k.toStores
  powerQueue := k.powerQueue.trans h.powerQueue
  qualQueue := k.qualQueue.trans h.qualQueue
  served := k.served.trans h.served

/-- Lists that are the same keep the law of the shadow. -/
theorem Shadowed.congr {g : Settings} {b c : Bridge}
    (h : ∀ n, (c.slot n).shadow = (b.slot n).shadow) (hb : Shadowed g b) : Shadowed g c := by
  have e : (fun n => (c.slot n).shadow) = fun n => (b.slot n).shadow := funext h
  unfold Shadowed
  rw [e]
  exact hb

/-- What a slot keeps of its queues and counters when it is written anew: no queue grows, and no counter leaves its
range. -/
structure SlotCalm (s t : Slot) : Prop where
  egress : t.egress.length ≤ s.egress.length
  ingress : t.ingress.length ≤ s.ingress.length
  upQueue : t.upQueue.length ≤ s.upQueue.length
  counters : SlotCounted s → SlotCounted t

theorem SlotCalm.refl (s : Slot) : SlotCalm s s := ⟨Nat.le_refl _, Nat.le_refl _, Nat.le_refl _, id⟩

/-- The law of the rooms after a change of one slot. -/
theorem Roomy.modSlot {b : Bridge} {n : SlotId} {f : Slot → Slot}
    (h : (f (b.slot n)).egress.length ≤ 32 ∧ (f (b.slot n)).ingress.length ≤ 32 ∧
      (f (b.slot n)).upQueue.length ≤ 32) (hb : Roomy b) : Roomy (b.modSlot n f) := by
  obtain ⟨h1, h2, h3, hs⟩ := hb
  refine ⟨h1, h2, h3, fun m => ?_⟩
  rw [Bridge.slot_modSlot]
  split
  · exact h
  · exact hs m

theorem Counted.modSlot {b : Bridge} {n : SlotId} {f : Slot → Slot}
    (h : SlotCounted (b.slot n) → SlotCounted (f (b.slot n))) (hb : Counted b) :
    Counted (b.modSlot n f) := by
  obtain ⟨h1, h2, h3, h4, hs⟩ := hb
  refine ⟨h1, h2, h3, h4, fun m => ?_⟩
  rw [Bridge.slot_modSlot]
  split
  · exact h (hs n)
  · exact hs m

/-- A change of one slot within its rooms and counters that leaves its list. -/
theorem Calm.modSlot_of_room {g : Settings} {b : Bridge} {n : SlotId} {f : Slot → Slot}
    (hr : (b.slot n).egress.length ≤ 32 ∧ (b.slot n).ingress.length ≤ 32 ∧
        (b.slot n).upQueue.length ≤ 32 →
      (f (b.slot n)).egress.length ≤ 32 ∧ (f (b.slot n)).ingress.length ≤ 32 ∧
        (f (b.slot n)).upQueue.length ≤ 32)
    (hc : SlotCounted (b.slot n) → SlotCounted (f (b.slot n)))
    (hs : (f (b.slot n)).shadow = (b.slot n).shadow) : Calm g b (b.modSlot n f) where
  rooms := fun hb => hb.modSlot (hr (hb.2.2.2 n))
  counters := Counted.modSlot hc
  shadow := Shadowed.congr fun m => by
    rw [Bridge.slot_modSlot]
    split
    · rename_i e; rw [hs, e]
    · rfl
  pool := AccountsLe.pooled g (.of_ort rfl)
  powerQueue := rfl
  qualQueue := rfl
  served := rfl

/-- A calm change of one slot that leaves its list. -/
theorem Calm.modSlot {g : Settings} {b : Bridge} {n : SlotId} {f : Slot → Slot}
    (h : SlotCalm (b.slot n) (f (b.slot n))) (hs : (f (b.slot n)).shadow = (b.slot n).shadow) :
    Calm g b (b.modSlot n f) :=
  Calm.modSlot_of_room (fun ⟨he, hi, hu⟩ =>
    ⟨Nat.le_trans h.egress he, Nat.le_trans h.ingress hi, Nat.le_trans h.upQueue hu⟩) h.counters hs

/-- A change of one slot that writes none of its queues, counters and records. -/
theorem Calm.modSlot_of_same {g : Settings} {b : Bridge} {n : SlotId} {f : Slot → Slot}
    (he : (f (b.slot n)).egress = (b.slot n).egress) (hi : (f (b.slot n)).ingress = (b.slot n).ingress)
    (hu : (f (b.slot n)).upQueue = (b.slot n).upQueue) (hf : (f (b.slot n)).fault = (b.slot n).fault)
    (hc : (f (b.slot n)).suspicion = (b.slot n).suspicion)
    (hs : (f (b.slot n)).shadow = (b.slot n).shadow) : Calm g b (b.modSlot n f) :=
  Calm.modSlot ⟨by rw [he], by rw [hi], by rw [hu], by unfold SlotCounted; rw [hf, hc]; exact id⟩ hs

/-- A change of one slot's fault record that keeps its counters in range. -/
theorem Calm.modFault {g : Settings} {b : Bridge} {n : SlotId} {f : FaultRecord → FaultRecord}
    (h : FaultLaw (b.slot n).fault → FaultLaw (f (b.slot n).fault)) : Calm g b (b.modFault n f) :=
  Calm.modSlot ⟨Nat.le_refl _, Nat.le_refl _, Nat.le_refl _, fun hc => ⟨h hc.1, hc.2⟩⟩ rfl

/-- A saturating counter of 16 bits stays in its range. -/
theorem satAdd_countTop_le (n k : Nat) : satAdd countTop n k ≤ 65535 := Nat.min_le_right _ _

/-! ### The ORT keeps its accounts -/

theorem AccountsLe.setWord {b : Bridge} {i : BridgeTag} {w : OrtWord}
    (h : w.status.account = (b.status i).account ∨ w.status.account = none) :
    AccountsLe b (b.setWord i w) := fun j => by
  by_cases e : j = i
  · subst e
    rw [Bridge.status, Bridge.ort_setWord_self]
    exact h
  · rw [Bridge.status, Bridge.ort_setWord_ne b w e]
    exact .inl rfl

theorem AccountsLe.freeEntry (b : Bridge) (i : BridgeTag) : AccountsLe b (b.freeEntry i) := fun j => by
  rw [Bridge.status_freeEntry]
  split
  · exact .inr rfl
  · exact .inl rfl

theorem AccountsLe.putRecord (b : Bridge) (i : BridgeTag) (r : EntryRecord) :
    AccountsLe b (b.putRecord i r) := by
  unfold Bridge.putRecord
  split
  · rename_i a r' hs
    exact AccountsLe.setWord (.inl (by rw [hs]; rfl))
  · exact .refl b
  · exact .refl b

theorem AccountsLe.dropNote {b c : Bridge} (h : AccountsLe b c) (i : BridgeTag) :
    AccountsLe b (c.dropNote i) := h

theorem AccountsLe.raise (b : Bridge) (g : Settings) (p : AlertPair) : AccountsLe b (b.raise g p) :=
  .of_ort (b.raise_ort g p)

theorem AccountsLe.noteCorrection (b : Bridge) (g : Settings) : AccountsLe b (b.noteCorrection g) :=
  .of_ort (b.noteCorrection_ort g)

theorem AccountsLe.releaseEntry (b : Bridge) (i : BridgeTag) (r : EntryRecord) :
    AccountsLe b (b.releaseEntry i r) := by
  unfold Bridge.releaseEntry
  split
  · exact .refl b
  · exact .putRecord b i _
  · exact .freeEntry b i
  · exact .freeEntry b i

/-- A LOST entry stays in its account. -/
theorem AccountsLe.loseEntry {b : Bridge} (g : Settings) {i : BridgeTag} {a : SlotId} {r : EntryRecord}
    (e : ReadEvent) (h : b.status i = .inUse a r) : AccountsLe b (b.loseEntry g i a e) := by
  have hw : AccountsLe b (b.setWord i { b.ort.get i with status := .lost a }) :=
    AccountsLe.setWord (.inl (by rw [h]; rfl))
  exact hw.trans (.of_ort (Bridge.raise_ort _ _ _))

theorem AccountsLe.readEntry (b : Bridge) (g : Settings) (i : BridgeTag) (e : ReadEvent) :
    AccountsLe b (b.readEntry g i e).1 := by
  unfold Bridge.readEntry
  split
  · exact .refl b
  · exact .refl b
  · rename_i a r hs
    split
    · exact .refl b
    · exact AccountsLe.trans (c := b.setWord i { b.ort.get i with flips := 0 })
        (.setWord (.inl rfl)) (.noteCorrection _ g)
    · exact .loseEntry g e hs

theorem AccountsLe.listItemOf (b : Bridge) (i : BridgeTag) : AccountsLe b (b.listItemOf i) := by
  refine .of_ort ?_
  unfold Bridge.listItemOf Bridge.listItem
  split
  · split <;> rfl
  · rfl
  · rfl

/-- A fold of steps that keep the accounts keeps them. -/
theorem AccountsLe.foldl {α : Type} {f : Bridge → α → Bridge} (h : ∀ b x, AccountsLe b (f b x))
    (l : List α) (b : Bridge) : AccountsLe b (l.foldl f b) := by
  induction l generalizing b with
  | nil => exact .refl b
  | cons x rest ih => exact (h b x).trans (ih (f b x))

theorem AccountsLe.itemLeft (b : Bridge) (g : Settings) (i : BridgeTag) :
    AccountsLe b (b.itemLeft g i) := by
  have h := AccountsLe.readEntry b g i .itemLeft
  unfold Bridge.itemLeft
  split
  · rename_i c r e
    rw [e] at h
    split
    · exact h.trans (.freeEntry c i)
    · exact h.trans (.putRecord c i _)
    · exact h
    · exact h
  · rename_i c e
    rw [e] at h
    exact h

theorem AccountsLe.removeItemsToward (b : Bridge) (g : Settings) (a : SlotId) :
    AccountsLe b (b.removeItemsToward g a) :=
  (AccountsLe.of_ort rfl).trans (.foldl (fun c i => .itemLeft c g i) _ _)

theorem AccountsLe.search (b : Bridge) (g : Settings) {act : BridgeTag → EntryRecord → Bridge → Bridge}
    (h : ∀ i r c, AccountsLe c (act i r c)) : AccountsLe b (b.search g act) := by
  refine AccountsLe.trans (.of_ort rfl) (.foldl (f := Bridge.searchStep g act) ?_ b.searchOrder b.drawSearch)
  intro c i
  have hr := AccountsLe.readEntry c g i .search
  unfold Bridge.searchStep
  split
  · rename_i d r e
    rw [e] at hr
    exact hr.trans (h i r d)
  · rename_i d e
    rw [e] at hr
    exact hr

theorem AccountsLe.departEntry (g : Settings) (n : SlotId) (i : BridgeTag) (r : EntryRecord)
    (b : Bridge) : AccountsLe b (Bridge.departEntry g n i r b) := by
  unfold Bridge.departEntry
  split
  · split
    · split
      · exact .freeEntry b i
      · exact (AccountsLe.putRecord b i _).dropNote i
      · exact (AccountsLe.putRecord b i _).dropNote i
    · split
      · split
        · exact (AccountsLe.putRecord b i _).dropNote i
        · exact .refl b
      · exact .refl b
      · exact .refl b
  · exact .refl b
  · exact .refl b

theorem AccountsLe.freeBridgeEntry (n : SlotId) (i : BridgeTag) (r : EntryRecord) (b : Bridge) :
    AccountsLe b (Bridge.freeBridgeEntry n i r b) := by
  unfold Bridge.freeBridgeEntry
  split
  · split
    · exact .freeEntry b i
    · exact .refl b
  · exact .refl b

theorem AccountsLe.releaseHeldEntry (n : SlotId) (i : BridgeTag) (r : EntryRecord) (b : Bridge) :
    AccountsLe b (Bridge.releaseHeldEntry n i r b) := by
  unfold Bridge.releaseHeldEntry
  split
  · exact .releaseEntry b i r
  · exact .refl b

theorem AccountsLe.departAdmitted (b : Bridge) (g : Settings) (n : SlotId) :
    AccountsLe b (b.departAdmitted g n) :=
  (AccountsLe.search b g (.departEntry g n)).trans (.foldl (fun c i => .listItemOf c i) _ _)

/-! ### What the sequencer records of a slot -/

/-- The part of a slot that the laws of the sequencers speak of. -/
structure SeqView where
  stage : Stage
  attempts : Nat
  pwren : Bool
  watch : Bool
  present : Bool

/-- The sequencer's record of a slot. -/
def Slot.view (s : Slot) : SeqView :=
  { stage := s.stage, attempts := s.attempts, pwren := s.pwren, watch := s.watch,
    present := s.filtered.prsnt }

/-- A calm operation that leaves every sequencer's record as it was. -/
structure Unmoved (g : Settings) (b c : Bridge) : Prop extends Calm g b c where
  view : ∀ n, (c.slot n).view = (b.slot n).view
  now : c.now = b.now

theorem Unmoved.refl (g : Settings) (b : Bridge) : Unmoved g b b := ⟨.refl g b, fun _ => rfl, rfl⟩

theorem Unmoved.trans {g : Settings} {b c d : Bridge} (h : Unmoved g b c) (k : Unmoved g c d) :
    Unmoved g b d :=
  ⟨h.toCalm.trans k.toCalm, fun n => (k.view n).trans (h.view n), k.now.trans h.now⟩

/-- A calm operation on slot `n` after which its sequencer's record is `v`, and the others' as they were. -/
structure Moved (g : Settings) (n : SlotId) (b c : Bridge) (v : SeqView) : Prop extends Calm g b c where
  self : (c.slot n).view = v
  others : ∀ m, m ≠ n → (c.slot m).view = (b.slot m).view
  now : c.now = b.now

theorem Unmoved.moved {g : Settings} {b c : Bridge} (h : Unmoved g b c) (n : SlotId) :
    Moved g n b c (b.slot n).view := ⟨h.toCalm, h.view n, fun m _ => h.view m, h.now⟩

theorem Moved.unmoved {g : Settings} {n : SlotId} {b c : Bridge} (h : Moved g n b c (b.slot n).view) :
    Unmoved g b c where
  toCalm := h.toCalm
  view := fun m => by
    by_cases e : m = n
    · rw [e]; exact h.self
    · exact h.others m e
  now := h.now

theorem Moved.trans {g : Settings} {n : SlotId} {b c d : Bridge} {v w : SeqView} (h : Moved g n b c v)
    (k : Moved g n c d w) : Moved g n b d w where
  toCalm := h.toCalm.trans k.toCalm
  self := k.self
  others := fun m hm => (k.others m hm).trans (h.others m hm)
  now := k.now.trans h.now

theorem Unmoved.trans_moved {g : Settings} {n : SlotId} {b c d : Bridge} {v : SeqView}
    (h : Unmoved g b c) (k : Moved g n c d v) : Moved g n b d v := (h.moved n).trans k

theorem Moved.trans_unmoved {g : Settings} {n : SlotId} {b c d : Bridge} {v : SeqView}
    (h : Moved g n b c v) (k : Unmoved g c d) : Moved g n b d v where
  toCalm := h.toCalm.trans k.toCalm
  self := (k.view n).trans h.self
  others := fun m hm => (k.view m).trans (h.others m hm)
  now := k.now.trans h.now

/-- A calm change of one slot moves that slot alone. -/
theorem Moved.modSlot {g : Settings} {n : SlotId} {b : Bridge} {f : Slot → Slot}
    (h : Calm g b (b.modSlot n f)) : Moved g n b (b.modSlot n f) (f (b.slot n)).view where
  toCalm := h
  self := by rw [Bridge.slot_modSlot_self]
  others := fun m hm => by rw [Bridge.slot_modSlot_ne b f hm]
  now := rfl

/-- A calm change of one slot that leaves its sequencer's record. -/
theorem Unmoved.modSlot {g : Settings} {n : SlotId} {b : Bridge} {f : Slot → Slot}
    (h : Calm g b (b.modSlot n f)) (hv : (f (b.slot n)).view = (b.slot n).view) :
    Unmoved g b (b.modSlot n f) := Moved.unmoved (n := n) (hv ▸ Moved.modSlot h)

theorem Unmoved.modFault {g : Settings} {n : SlotId} {b : Bridge} {f : FaultRecord → FaultRecord}
    (h : FaultLaw (b.slot n).fault → FaultLaw (f (b.slot n).fault)) : Unmoved g b (b.modFault n f) :=
  Unmoved.modSlot (Calm.modFault h) rfl

/-- A bridge with the same slots, in which nothing else that the laws name leaves its bounds. -/
theorem Unmoved.of_slots {g : Settings} {b c : Bridge} (hs : ∀ n, c.slot n = b.slot n)
    (hu : b.upIngress.length ≤ 64 → c.upIngress.length ≤ 64 := by exact id)
    (hq : b.bridgeQueue.length ≤ 64 → c.bridgeQueue.length ≤ 64 := by exact id)
    (hi : b.inrush.length ≤ 4 → c.inrush.length ≤ 4 := by exact id)
    (hr : b.unrouted ≤ 65535 → c.unrouted ≤ 65535 := by exact id)
    (hx : b.unexpected ≤ 65535 → c.unexpected ≤ 65535 := by exact id)
    (hl : c.log.corrected ≤ b.log.corrected ∧ c.log.overflow ≤ b.log.overflow := by
      exact ⟨Nat.le_refl _, Nat.le_refl _⟩)
    (ha : Pooled g b → Pooled g c := by exact id) (hp : c.powerQueue = b.powerQueue := by rfl)
    (hk : c.qualQueue = b.qualQueue := by rfl) (hv : served c = served b := by rfl)
    (hn : c.now = b.now := by rfl) : Unmoved g b c where
  rooms := fun ⟨h1, h2, h3, h4⟩ => ⟨hu h1, hq h2, hi h3, fun n => by rw [hs n]; exact h4 n⟩
  counters := fun ⟨h1, h2, h3, h4, h5⟩ =>
    ⟨hr h1, hx h2, Nat.le_trans hl.1 h3, Nat.le_trans hl.2 h4, fun n => by rw [hs n]; exact h5 n⟩
  shadow := Shadowed.congr fun n => by rw [hs n]
  pool := ha
  powerQueue := hp
  qualQueue := hk
  served := hv
  view := fun n => by rw [hs n]
  now := hn

/-- The operations of the ORT and the Stand-in Work List move no sequencer. -/
theorem Unmoved.of_ort {g : Settings} {b c : Bridge} (h : OrtOnly b c) (ha : AccountsLe b c) :
    Unmoved g b c where
  rooms := fun ⟨h1, h2, h3, h4⟩ => by
    refine ⟨by rw [h.upIngress]; exact h1, by rw [h.bridgeQueue]; exact h2,
      by rw [h.inrush]; exact h3, fun n => ?_⟩
    obtain ⟨x, hx⟩ := h.slot n
    rw [hx]
    exact h4 n
  counters := fun ⟨h1, h2, h3, h4, h5⟩ => by
    obtain ⟨k3, k4⟩ := h.log ⟨h3, h4⟩
    refine ⟨by rw [h.unrouted]; exact h1, by rw [h.unexpected]; exact h2, k3, k4, fun n => ?_⟩
    obtain ⟨x, hx⟩ := h.slot n
    rw [hx]
    exact h5 n
  shadow := Shadowed.congr fun n => by
    obtain ⟨x, hx⟩ := h.slot n
    rw [hx]
  pool := ha.pooled g
  powerQueue := h.powerQueue
  qualQueue := h.qualQueue
  served := by unfold served; rw [h.run]
  view := fun n => by
    obtain ⟨x, hx⟩ := h.slot n
    rw [hx]
    rfl
  now := h.now

theorem Unmoved.raise (g : Settings) (b : Bridge) (k : Settings) (p : AlertPair) :
    Unmoved g b (b.raise k p) := .of_ort (OrtOnly.raise b k p) (.raise b k p)

theorem Unmoved.readEntry (g : Settings) (b : Bridge) (i : BridgeTag) (e : ReadEvent) :
    Unmoved g b (b.readEntry g i e).1 := .of_ort (OrtOnly.readEntry b g i e) (.readEntry b g i e)

theorem Unmoved.freeEntry (g : Settings) (b : Bridge) (i : BridgeTag) : Unmoved g b (b.freeEntry i) :=
  .of_ort (OrtOnly.freeEntry b i) (.freeEntry b i)

theorem Unmoved.putRecord (g : Settings) (b : Bridge) (i : BridgeTag) (r : EntryRecord) :
    Unmoved g b (b.putRecord i r) := .of_ort (OrtOnly.putRecord b i r) (.putRecord b i r)

theorem Unmoved.releaseEntry (g : Settings) (b : Bridge) (i : BridgeTag) (r : EntryRecord) :
    Unmoved g b (b.releaseEntry i r) := .of_ort (OrtOnly.releaseEntry b i r) (.releaseEntry b i r)

theorem Unmoved.departAdmitted (g : Settings) (b : Bridge) (n : SlotId) :
    Unmoved g b (b.departAdmitted g n) := .of_ort (OrtOnly.departAdmitted b g n) (.departAdmitted b g n)

theorem Unmoved.countDiscarded (g : Settings) (b : Bridge) (n : SlotId) (k : Nat) :
    Unmoved g b (b.countDiscarded n k) :=
  Unmoved.modFault fun ⟨h1, h2, _, h4⟩ => ⟨h1, h2, satAdd_countTop_le _ _, h4⟩

theorem Unmoved.countFenceEvent (g : Settings) (b : Bridge) (n : SlotId) :
    Unmoved g b (b.countFenceEvent n) :=
  Unmoved.modFault fun ⟨h1, h2, h3, h4, h5, h6, h7, h8, _, h10⟩ =>
    ⟨h1, h2, h3, h4, h5, h6, h7, h8, satAdd_countTop_le _ _, h10⟩

/-- The emptying of a slot's queues moves nothing (spec/04, R77). -/
theorem Unmoved.emptyPortQueues (g : Settings) (b : Bridge) (n : SlotId) :
    Unmoved g b (b.emptyPortQueues n) :=
  (Unmoved.modSlot (Calm.modSlot ⟨Nat.zero_le _, Nat.zero_le _, Nat.le_refl _, id⟩ rfl) rfl).trans
    (.countDiscarded g _ n _)

theorem Unmoved.emptyEgress (g : Settings) (b : Bridge) (n : SlotId) :
    Unmoved g b (b.emptyEgress n) :=
  (Unmoved.modSlot (Calm.modSlot ⟨Nat.zero_le _, Nat.le_refl _, Nat.le_refl _, id⟩ rfl) rfl).trans
    (.countDiscarded g _ n _)

theorem Unmoved.srstEntry (g : Settings) (b : Bridge) (n : SlotId) : Unmoved g b (b.srstEntry g n) :=
  (Unmoved.emptyPortQueues g b n).trans <| .of_ort (OrtOnly.srstEntry b g n) <|
    (AccountsLe.search (b.emptyPortQueues n) g (.releaseHeldEntry n)).trans (.removeItemsToward _ g n)

end Sys2Proof.Machine
end

section
/-! PROOFS. The moves of the slot sequencers: what each leaves in the sequencer's record of its slot, what becomes of
the Power Queue and the Qualification Queue, and the relation `Keeps`, between bridges, that every law is kept. -/

namespace Sys2Proof.Machine

open Sys2Proof Sys2Proof.Safety

/-! ### The laws of the sequencers -/

/-- The law of PWREN for one slot. -/
def SeqView.Powered (v : SeqView) : Prop :=
  pwrenFits v.stage v.pwren = true ∧ (v.watch = true → v.pwren = true)

/-- The law of presence for one slot. -/
def SeqView.Present (v : SeqView) : Prop := v.stage = .empty ↔ v.present = false

/-- The law of the attempts for one slot under its maximum. -/
def SeqView.Attempted (top : Nat) (v : SeqView) : Prop :=
  v.attempts ≤ top ∧ (v.stage = .admitted ∨ v.stage = .fenced → v.attempts = 0)

theorem powerLineLaw_iff (s : State) :
    PowerLineLaw s ↔ ∀ n, (s.bridge.slot n).view.Powered := Iff.rfl

theorem attemptLaw_iff (s : State) :
    AttemptLaw s ↔ SettingsLaw s ∧
      ∀ n, (s.bridge.slot n).view.Attempted (s.settings.policy n).maxAttempts := Iff.rfl

/-- Slot `m` stands in the queues of slots as its state says, and the engine serves it only in QUALIFYING. -/
def Coupled (b : Bridge) (m : SlotId) : Prop :=
  (m ∈ b.powerQueue ↔ (b.slot m).stage = .powering .queued) ∧
    (m ∈ b.qualQueue ∨ served b = some m ↔ (b.slot m).stage = .qualifying) ∧
    ¬ (m ∈ b.qualQueue ∧ served b = some m)

/-- The law of the queues of slots, of the bridge alone. -/
def Queued (b : Bridge) : Prop :=
  b.powerQueue.Nodup ∧ b.qualQueue.Nodup ∧ ∀ m : SlotId, Coupled b m

theorem slotQueueLaw_iff (s : State) : SlotQueueLaw s ↔ Queued s.bridge := Iff.rfl

theorem presenceLaw_iff (s : State) :
    PresenceLaw s ↔ Queued s.bridge ∧ ∀ n, (s.bridge.slot n).view.Present := Iff.rfl

/-- The law of the queues while slot `n` is between two states: it stands in no queue and is not served. -/
structure Apart (n : SlotId) (b : Bridge) : Prop where
  powerNodup : b.powerQueue.Nodup
  qualNodup : b.qualQueue.Nodup
  power : n ∉ b.powerQueue
  qual : n ∉ b.qualQueue
  served : served b ≠ some n
  others : ∀ m, m ≠ n → Coupled b m

/-- A slot that is neither in phase QUEUED nor QUALIFYING is in no queue. -/
theorem Queued.apart {b : Bridge} {n : SlotId} (h : Queued b)
    (hp : (b.slot n).stage ≠ .powering .queued) (hq : (b.slot n).stage ≠ .qualifying) : Apart n b := by
  obtain ⟨h1, h2, hs⟩ := h
  obtain ⟨p, q, -⟩ := hs n
  exact ⟨h1, h2, fun e => hp (p.1 e), fun e => hq (q.1 (.inl e)), fun e => hq (q.1 (.inr e)),
    fun m _ => hs m⟩

/-- The coupling of a slot whose state and whose places in the queues are as they were. -/
theorem Coupled.congr {b c : Bridge} {m : SlotId} (h : Coupled b m)
    (hp : m ∈ c.powerQueue ↔ m ∈ b.powerQueue) (hq : m ∈ c.qualQueue ↔ m ∈ b.qualQueue)
    (hv : Safety.served c = some m ↔ Safety.served b = some m) (hs : (c.slot m).stage = (b.slot m).stage) :
    Coupled c m := by
  unfold Coupled
  rw [hp, hq, hv, hs]
  exact h

theorem Slot.stage_of_view {s t : Slot} (h : t.view = s.view) : t.stage = s.stage :=
  congrArg SeqView.stage h

/-- A slot that enters a state outside the two queues. -/
theorem Apart.queued {n : SlotId} {b : Bridge} (h : Apart n b)
    (hp : (b.slot n).stage ≠ .powering .queued) (hq : (b.slot n).stage ≠ .qualifying) : Queued b := by
  refine ⟨h.powerNodup, h.qualNodup, fun m => ?_⟩
  by_cases e : m = n
  · subst e
    exact ⟨iff_of_false h.power hp, iff_of_false (fun x => x.elim h.qual h.served) hq,
      fun x => h.qual x.1⟩
  · exact h.others m e

/-! ### Departures -/

/-- `c` is `b` with slot `n` between two states, its record standing at `v`: the laws of the stores are kept, the other
sequencers are as they were, and slot `n` has left the queues. -/
structure Gone (g : Settings) (n : SlotId) (b c : Bridge) (v : SeqView) : Prop extends Stores g b c where
  self : (c.slot n).view = v
  others : ∀ m, m ≠ n → (c.slot m).view = (b.slot m).view
  now : c.now = b.now
  away : Queued b → Apart n c
  apart : Apart n b → Apart n c

/-- A calm move of a slot in no queue leaves it in none. -/
theorem Moved.apart {g : Settings} {n : SlotId} {b c : Bridge} {v : SeqView} (h : Moved g n b c v)
    (hb : Apart n b) : Apart n c where
  powerNodup := by rw [h.powerQueue]; exact hb.powerNodup
  qualNodup := by rw [h.qualQueue]; exact hb.qualNodup
  power := by rw [h.powerQueue]; exact hb.power
  qual := by rw [h.qualQueue]; exact hb.qual
  served := by rw [h.served]; exact hb.served
  others := fun m hm => (hb.others m hm).congr (by rw [h.powerQueue]) (by rw [h.qualQueue])
    (by rw [h.served]) (Slot.stage_of_view (h.others m hm))

/-- A slot outside the two queues may move at once. -/
theorem Moved.gone {g : Settings} {n : SlotId} {b c : Bridge} {v : SeqView} (h : Moved g n b c v)
    (hp : (b.slot n).stage ≠ .powering .queued) (hq : (b.slot n).stage ≠ .qualifying) :
    Gone g n b c v where
  toStores := h.toStores
  self := h.self
  others := h.others
  now := h.now
  away := fun hb => h.apart (hb.apart hp hq)
  apart := h.apart

theorem Gone.trans {g : Settings} {n : SlotId} {b c d : Bridge} {v w : SeqView} (h : Gone g n b c v)
    (k : Gone g n c d w) : Gone g n b d w where
  toStores := h.toStores.trans k.toStores
  self := k.self
  others := fun m hm => (k.others m hm).trans (h.others m hm)
  now := k.now.trans h.now
  away := k.apart ∘ h.away
  apart := k.apart ∘ h.apart

theorem Gone.trans_moved {g : Settings} {n : SlotId} {b c d : Bridge} {v w : SeqView}
    (h : Gone g n b c v) (k : Moved g n c d w) : Gone g n b d w where
  toStores := h.toStores.trans k.toStores
  self := k.self
  others := fun m hm => (k.others m hm).trans (h.others m hm)
  now := k.now.trans h.now
  away := k.apart ∘ h.away
  apart := k.apart ∘ h.apart

theorem Moved.trans_gone {g : Settings} {n : SlotId} {b c d : Bridge} {v w : SeqView}
    (h : Moved g n b c v) (hs : v.stage = (b.slot n).stage) (k : Gone g n c d w) : Gone g n b d w where
  toStores := h.toStores.trans k.toStores
  self := k.self
  others := fun m hm => (k.others m hm).trans (h.others m hm)
  now := k.now.trans h.now
  away := fun ⟨h1, h2, h3⟩ => by
    refine k.away ⟨by rw [h.powerQueue]; exact h1, by rw [h.qualQueue]; exact h2, fun m => ?_⟩
    refine (h3 m).congr (by rw [h.powerQueue]) (by rw [h.qualQueue]) (by rw [h.served]) ?_
    by_cases e : m = n
    · subst e; rw [← hs, ← h.self]; rfl
    · exact Slot.stage_of_view (h.others m e)
  apart := k.apart ∘ h.apart

theorem Unmoved.trans_gone {g : Settings} {n : SlotId} {b c d : Bridge} {w : SeqView}
    (h : Unmoved g b c) (k : Gone g n c d w) : Gone g n b d w := (h.moved n).trans_gone rfl k

theorem Gone.trans_unmoved {g : Settings} {n : SlotId} {b c d : Bridge} {v : SeqView}
    (h : Gone g n b c v) (k : Unmoved g c d) : Gone g n b d v :=
  h.trans_moved (h.self ▸ k.moved n)

/-- A change of the queues of slots and of the engine's run alone. -/
theorem Stores.of_queues (g : Settings) (b : Bridge) (p q : List SlotId) (r : Option Run) :
    Stores g b { b with powerQueue := p, qualQueue := q, run := r } :=
  ⟨id, id, id, AccountsLe.pooled g (.of_ort rfl)⟩

theorem served_leaveQualification (b : Bridge) (n m : SlotId) :
    served (b.leaveQualification n) = some m ↔ served b = some m ∧ m ≠ n := by
  unfold served Bridge.leaveQualification
  rcases b.run with _ | r
  · simp
  · by_cases e : r.slot = n
    · subst e
      simp [eq_comm]
    · simp only [e, if_false, Option.map_some, Option.some.injEq]
      exact ⟨fun h => ⟨h, h ▸ e⟩, fun h => h.1⟩

theorem Gone.leaveQualification (g : Settings) (b : Bridge) (n : SlotId)
    (hn : (b.slot n).stage ≠ .powering .queued) :
    Gone g n b (b.leaveQualification n) (b.slot n).view where
  toStores := .of_queues g b b.powerQueue _ _
  self := rfl
  others := fun _ _ => rfl
  now := rfl
  away := fun ⟨h1, h2, h3⟩ =>
    { powerNodup := h1
      qualNodup := h2.filter _
      power := fun e => hn ((h3 n).1.1 e)
      qual := by simp [Bridge.leaveQualification]
      served := fun e => ((served_leaveQualification b n n).1 e).2 rfl
      others := fun m hm => (h3 m).congr Iff.rfl (by simp [Bridge.leaveQualification, hm])
        (by simp [served_leaveQualification, hm]) rfl }
  apart := fun h =>
    { powerNodup := h.powerNodup
      qualNodup := h.qualNodup.filter _
      power := h.power
      qual := by simp [Bridge.leaveQualification]
      served := fun e => ((served_leaveQualification b n n).1 e).2 rfl
      others := fun m hm => (h.others m hm).congr Iff.rfl (by simp [Bridge.leaveQualification, hm])
        (by simp [served_leaveQualification, hm]) rfl }

theorem Gone.leavePowerQueue (g : Settings) (b : Bridge) (n : SlotId)
    (hn : (b.slot n).stage ≠ .qualifying) :
    Gone g n b (b.leavePowerQueue n) (b.slot n).view where
  toStores := .of_queues g b _ b.qualQueue b.run
  self := rfl
  others := fun _ _ => rfl
  now := rfl
  away := fun ⟨h1, h2, h3⟩ =>
    { powerNodup := h1.filter _
      qualNodup := h2
      power := by simp [Bridge.leavePowerQueue]
      qual := fun e => hn ((h3 n).2.1.1 (.inl e))
      served := fun e => hn ((h3 n).2.1.1 (.inr e))
      others := fun m hm => (h3 m).congr (by simp [Bridge.leavePowerQueue, hm]) Iff.rfl Iff.rfl rfl }
  apart := fun h =>
    { powerNodup := h.powerNodup.filter _
      qualNodup := h.qualNodup
      power := by simp [Bridge.leavePowerQueue]
      qual := h.qual
      served := h.served
      others := fun m hm =>
        (h.others m hm).congr (by simp [Bridge.leavePowerQueue, hm]) Iff.rfl Iff.rfl rfl }

theorem Unmoved.searchBridgeEntries (g : Settings) (b : Bridge) (n : SlotId) :
    Unmoved g b (b.search g (Bridge.freeBridgeEntry n)) :=
  .of_ort (OrtOnly.search b g (OrtOnly.freeBridgeEntry n))
    (AccountsLe.search b g (AccountsLe.freeBridgeEntry n))

/-- A slot that leaves its state leaves the queues (spec/04, R78). -/
theorem Gone.leave (g : Settings) (b : Bridge) (n : SlotId) :
    Gone g n b (b.leave g n) (b.slot n).view := by
  unfold Bridge.leave
  split
  · rename_i h
    exact ((Unmoved.departAdmitted g b n).moved n).gone (by rw [h]; nofun) (by rw [h]; nofun)
  · rename_i h
    exact (Gone.leaveQualification g b n (by rw [h]; nofun)).trans_unmoved (.searchBridgeEntries g _ n)
  · rename_i r h
    exact ((Unmoved.searchBridgeEntries g b n).moved n).gone (by rw [h]; nofun) (by rw [h]; nofun)
  · rename_i p h
    exact Gone.leavePowerQueue g b n (by rw [h]; nofun)
  all_goals
    rename_i h
    exact ((Unmoved.refl g b).moved n).gone (by rw [h]; nofun) (by rw [h]; nofun)

/-! ### Every law kept -/

/-- Between `b` and `c` every law of the bridge is kept. -/
structure Keeps (g : Settings) (b c : Bridge) : Prop extends Stores g b c where
  queues : Queued b → Queued c
  power : (∀ n, (b.slot n).view.Powered) → ∀ n, (c.slot n).view.Powered
  presence : Queued b → (∀ n, (b.slot n).view.Present) → ∀ n, (c.slot n).view.Present
  attempts : (∀ n, 1 ≤ (g.policy n).maxAttempts) →
    (∀ n, (b.slot n).view.Attempted (g.policy n).maxAttempts) →
      ∀ n, (c.slot n).view.Attempted (g.policy n).maxAttempts

theorem Keeps.trans {g : Settings} {b c d : Bridge} (h : Keeps g b c) (k : Keeps g c d) :
    Keeps g b d where
  toStores := h.toStores.trans k.toStores
  queues := k.queues ∘ h.queues
  power := k.power ∘ h.power
  presence := fun hq hp => k.presence (h.queues hq) (h.presence hq hp)
  attempts := fun ht ha => k.attempts ht (h.attempts ht ha)

/-- What a move of one sequencer keeps of the laws of its slot. -/
structure SeqView.Kept (top : Nat) (v w : SeqView) : Prop where
  power : v.Powered → w.Powered
  presence : v.Present → w.Present
  attempts : 1 ≤ top → v.Attempted top → w.Attempted top

/-- A law of each slot is kept by a move of slot `n` that keeps it there. -/
theorem forall_view_of_moved {P : SlotId → SeqView → Prop} {n : SlotId} {b c : Bridge} {v : SeqView}
    (self : (c.slot n).view = v) (others : ∀ m, m ≠ n → (c.slot m).view = (b.slot m).view)
    (h : P n (b.slot n).view → P n v) (hb : ∀ m, P m (b.slot m).view) (m : SlotId) :
    P m (c.slot m).view := by
  by_cases e : m = n
  · subst e; rw [self]; exact h (hb m)
  · rw [others m e]; exact hb m

/-- The laws of the single slots after a move of slot `n`, with the queues left to be shown. -/
theorem Keeps.of_view {g : Settings} {n : SlotId} {b c : Bridge} {v : SeqView} (hs : Stores g b c)
    (hv : (c.slot n).view = v) (ho : ∀ m, m ≠ n → (c.slot m).view = (b.slot m).view)
    (hk : SeqView.Kept (g.policy n).maxAttempts (b.slot n).view v) (hq : Queued b → Queued c) :
    Keeps g b c where
  toStores := hs
  queues := hq
  power := forall_view_of_moved hv ho hk.power
  presence := fun _ => forall_view_of_moved hv ho hk.presence
  attempts := fun ht => forall_view_of_moved
    (P := fun m w => w.Attempted (g.policy m).maxAttempts) hv ho (hk.attempts (ht n))

/-- A slot that has left its state and enters one outside the two queues. -/
theorem Gone.keeps {g : Settings} {n : SlotId} {b c : Bridge} {v : SeqView} (h : Gone g n b c v)
    (hp : v.stage ≠ .powering .queued) (hq : v.stage ≠ .qualifying)
    (hk : SeqView.Kept (g.policy n).maxAttempts (b.slot n).view v) : Keeps g b c :=
  Keeps.of_view h.toStores h.self h.others hk fun hb =>
    (h.away hb).queued (by rw [← h.self] at hp; exact hp) (by rw [← h.self] at hq; exact hq)

/-- A move within a state, or from one state outside the two queues to another. -/
theorem Moved.keeps {g : Settings} {n : SlotId} {b c : Bridge} {v : SeqView} (h : Moved g n b c v)
    (hp : v.stage = .powering .queued ↔ (b.slot n).stage = .powering .queued)
    (hq : v.stage = .qualifying ↔ (b.slot n).stage = .qualifying)
    (hk : SeqView.Kept (g.policy n).maxAttempts (b.slot n).view v) : Keeps g b c := by
  refine Keeps.of_view h.toStores h.self h.others hk fun ⟨h1, h2, h3⟩ => ?_
  refine ⟨by rw [h.powerQueue]; exact h1, by rw [h.qualQueue]; exact h2, fun m => ?_⟩
  by_cases e : m = n
  · subst e
    have hs : (c.slot m).stage = v.stage := congrArg SeqView.stage h.self
    unfold Coupled
    rw [h.powerQueue, h.qualQueue, h.served, hs, hp, hq]
    exact h3 m
  · exact (h3 m).congr (by rw [h.powerQueue]) (by rw [h.qualQueue]) (by rw [h.served])
      (Slot.stage_of_view (h.others m e))

theorem SeqView.Kept.refl (top : Nat) (v : SeqView) : SeqView.Kept top v v := ⟨id, id, fun _ => id⟩

theorem Unmoved.keeps {g : Settings} {b c : Bridge} (h : Unmoved g b c) : Keeps g b c :=
  (h.moved 0).keeps Iff.rfl Iff.rfl (.refl _ _)

theorem Keeps.refl (g : Settings) (b : Bridge) : Keeps g b b := (Unmoved.refl g b).keeps

theorem Unmoved.trans_keeps {g : Settings} {b c d : Bridge} (h : Unmoved g b c) (k : Keeps g c d) :
    Keeps g b d := h.keeps.trans k

theorem Keeps.trans_unmoved {g : Settings} {b c d : Bridge} (h : Keeps g b c) (k : Unmoved g c d) :
    Keeps g b d := h.trans k.keeps

/-! ### What the moves leave in the sequencer's record -/

/-- The record of a slot that enters RESETTING (spec/04, R94). -/
def SeqView.resetting (v : SeqView) (escalation : Nat) (now : Time) : SeqView :=
  let warm := v.pwren && decide (v.attempts + 1 < escalation)
  { v with
    stage := .resetting (if warm then .warmHold else .offWait) now
    attempts := v.attempts + 1
    pwren := warm
    watch := v.watch && warm }

/-- The record of a slot that enters PARKED (spec/04, R98). -/
def SeqView.parked (v : SeqView) (keep : Bool) : SeqView :=
  { v with stage := .parked, pwren := v.pwren && keep, watch := v.watch && keep }

/-- The record of a slot after an attempt failure (spec/04, R97). -/
def SeqView.failed (v : SeqView) (p : SlotPolicy) (now : Time) : SeqView :=
  if v.attempts < p.maxAttempts then v.resetting p.escalation now
  else v.parked (decide (p.parkPower = .keep))

/-- The record of a slot that enters ADMITTED (spec/04, R92). -/
def SeqView.admitted (v : SeqView) : SeqView := { v with stage := .admitted, attempts := 0 }

/-- The record of a slot that enters OFF or EMPTY (spec/04, R84, R88). -/
def SeqView.unpowered (v : SeqView) (stage : Stage) : SeqView :=
  { v with stage := stage, attempts := 0, pwren := false, watch := false }

/-- A slot that is powered and below the escalation point enters WARM-HOLD. -/
theorem SeqView.resetting_warm {v : SeqView} {k : Nat} {t : Time}
    (h : (v.pwren && decide (v.attempts + 1 < k)) = true) :
    v.resetting k t = { v with stage := .resetting .warmHold t, attempts := v.attempts + 1 } := by
  have hp : v.pwren = true := (Bool.and_eq_true_iff.1 h).1
  cases v
  simp_all [SeqView.resetting]

/-- Any other slot enters OFF-WAIT with PWREN off. -/
theorem SeqView.resetting_cold {v : SeqView} {k : Nat} {t : Time}
    (h : (v.pwren && decide (v.attempts + 1 < k)) = false) :
    v.resetting k t = { v with
      stage := .resetting .offWait t
      attempts := v.attempts + 1
      pwren := false
      watch := false } := by
  unfold SeqView.resetting
  simp only [h]
  cases v
  simp

theorem SeqView.parked_keep (v : SeqView) : v.parked true = { v with stage := .parked } := by
  cases v
  simp [SeqView.parked]

theorem SeqView.parked_drop (v : SeqView) :
    v.parked false = { v with stage := .parked, pwren := false, watch := false } := by
  cases v
  simp [SeqView.parked]

theorem Moved.setStage (g : Settings) (b : Bridge) (n : SlotId) (x : Stage) :
    Moved g n b (b.setStage n x) { (b.slot n).view with stage := x } :=
  Moved.modSlot (Calm.modSlot_of_same rfl rfl rfl rfl rfl rfl)

theorem Moved.pwrenOff (g : Settings) (b : Bridge) (n : SlotId) :
    Moved g n b (b.pwrenOff n) { (b.slot n).view with pwren := false, watch := false } :=
  Moved.modSlot (Calm.modSlot_of_same rfl rfl rfl rfl rfl rfl)

theorem Moved.setReplay (g : Settings) (b : Bridge) (n : SlotId) (r : Replay) :
    Moved g n b (b.setReplay n r) { (b.slot n).view with stage := .restoring r } :=
  Moved.modSlot (Calm.modSlot_of_same rfl rfl rfl rfl rfl rfl)

/-- A move stated of the record that the slot has by now. -/
theorem Moved.then {g : Settings} {n : SlotId} {b c d : Bridge} {v : SeqView} {f : SeqView → SeqView}
    (h : Moved g n b c v) (k : Moved g n c d (f (c.slot n).view)) : Moved g n b d (f v) :=
  h.trans (h.self ▸ k)

theorem Moved.enterResetting (g : Settings) (b : Bridge) (n : SlotId) :
    Moved g n b (b.enterResetting g n)
      ((b.slot n).view.resetting (g.policy n).escalation b.now) := by
  have h : Moved g n b
      ((b.modSlot n fun s => { s with attempts := (b.slot n).attempts + 1 }).srstEntry g n)
      { (b.slot n).view with attempts := (b.slot n).attempts + 1 } :=
    (Moved.modSlot (Calm.modSlot_of_same rfl rfl rfl rfl rfl rfl)).trans_unmoved (.srstEntry g _ n)
  unfold Bridge.enterResetting
  simp only
  split
  · rename_i hw
    rw [SeqView.resetting_warm hw]
    exact h.then (f := fun v => { v with stage := .resetting .warmHold b.now }) (.setStage g _ n _)
  · rename_i hw
    rw [SeqView.resetting_cold (Bool.not_eq_true _ ▸ hw)]
    exact (h.then (f := fun v => { v with pwren := false, watch := false }) (.pwrenOff g _ n)).then
      (f := fun v => { v with stage := .resetting .offWait b.now }) (.setStage g _ n _)

theorem Unmoved.latchPark (g : Settings) (b : Bridge) (n : SlotId) (reason : Option ParkReason) :
    Unmoved g b (b.modFault n fun r =>
      { r with parkReason := match r.parkReason with
          | some old => some old
          | none => reason }) := Unmoved.modFault id

theorem Moved.enterParked (g : Settings) (b : Bridge) (n : SlotId) (reason : Option ParkReason)
    (keep : Bool) : Moved g n b (b.enterParked g n reason keep) ((b.slot n).view.parked keep) := by
  have h := ((Unmoved.srstEntry g b n).trans (.latchPark g _ n reason)).moved n
  unfold Bridge.enterParked
  refine Moved.trans_unmoved ?_ (.raise g _ g _)
  cases keep with
  | true =>
    rw [SeqView.parked_keep]
    exact h.then (f := fun v => { v with stage := .parked }) (.setStage g _ n _)
  | false =>
    rw [SeqView.parked_drop]
    exact (h.then (f := fun v => { v with pwren := false, watch := false }) (.pwrenOff g _ n)).then
      (f := fun v => { v with stage := .parked }) (.setStage g _ n _)

theorem Moved.enterAdmitted (g : Settings) (b : Bridge) (n : SlotId) :
    Moved g n b (b.enterAdmitted g n) (b.slot n).view.admitted := by
  unfold Bridge.enterAdmitted
  refine Moved.trans_unmoved ?_ (.raise g _ g _)
  refine Moved.then (f := fun v => { v with stage := .admitted })
    (Moved.modSlot (Calm.modSlot ⟨Nat.le_refl _, Nat.le_refl _, Nat.le_refl _, ?_⟩ rfl))
    (.setStage g _ n _)
  rintro ⟨⟨h1, h2, h3, h4, h5, h6, h7, h8, h9, -⟩, -⟩
  exact ⟨⟨h1, h2, h3, h4, h5, h6, h7, h8, h9, satAdd_countTop_le _ _⟩, Nat.zero_le _⟩

theorem Moved.enterUnpowered (g : Settings) (b : Bridge) (n : SlotId) (x : Stage) :
    Moved g n b (b.enterUnpowered g n x) ((b.slot n).view.unpowered x) := by
  have h := ((Moved.pwrenOff g b n).then (f := fun v => { v with stage := x })
    (.setStage g _ n _)).trans_unmoved (.srstEntry g _ n)
  exact h.then (f := fun v => { v with attempts := 0 })
    (Moved.modSlot (Calm.modSlot_of_same rfl rfl rfl rfl rfl rfl))

theorem Moved.fenceAct (g : Settings) (b : Bridge) (n : SlotId) (t : Trigger) :
    Moved g n b (b.fenceAct g n t) { (b.slot n).view with stage := .fenced } := by
  unfold Bridge.fenceAct
  refine Moved.trans_unmoved ?_ (.raise g _ g _)
  exact (((Moved.setStage g b n .fenced).trans_unmoved (.departAdmitted g _ n)).trans_unmoved
    (.emptyEgress g _ n)).trans_unmoved (Unmoved.modFault id)

/-- Recovery counts an attempt, and leads to RESETTING (spec/04, R93). -/
theorem Moved.startRecovery (g : Settings) (b : Bridge) (n : SlotId) :
    Moved g n b (b.startRecovery g n) ((b.slot n).view.resetting (g.policy n).escalation b.now) := by
  have h : Moved g n b (b.modSlot n fun s => { s with restore := true }) (b.slot n).view :=
    Moved.modSlot (Calm.modSlot_of_same rfl rfl rfl rfl rfl rfl)
  exact h.then (f := fun v => v.resetting (g.policy n).escalation b.now) (.enterResetting g _ n)

/-- An attempt failure takes the slot out of its state (spec/04, R97). -/
theorem Gone.attemptFailure (g : Settings) (b : Bridge) (n : SlotId) (cause : Option ParkReason) :
    Gone g n b (b.attemptFailure g n cause) ((b.slot n).view.failed (g.policy n) b.now) := by
  have h := Gone.leave g b n
  unfold Bridge.attemptFailure SeqView.failed
  simp only
  have ha : (b.slot n).view.attempts = (b.slot n).attempts := rfl
  rw [ha]
  split
  · have k := Moved.enterResetting g (b.leave g n) n
    rw [h.self, h.now] at k
    exact h.trans_moved k
  · have k := Moved.enterParked g (b.leave g n) n cause (decide ((g.policy n).parkPower = .keep))
    rw [h.self] at k
    exact h.trans_moved k

/-! ### The records keep the laws -/

/-- The states that stand outside the two queues and are neither EMPTY, ADMITTED nor FENCED. -/
def Stage.plain : Stage → Bool
  | .resetting _ _ => true
  | .parked => true
  | .linking _ => true
  | .restoring _ => true
  | .off => true
  | .powering (.awaitPwrgd _) => true
  | .powering (.hold _ _) => true
  | _ => false

theorem Stage.plain_spec {x : Stage} (h : x.plain = true) :
    x ≠ .powering .queued ∧ x ≠ .qualifying ∧ x ≠ .empty ∧ ¬ (x = .admitted ∨ x = .fenced) := by
  refine ⟨?_, ?_, ?_, ?_⟩
  · rintro rfl; cases h
  · rintro rfl; cases h
  · rintro rfl; cases h
  · rintro (rfl | rfl) <;> cases h

/-- A move from a state other than EMPTY to a plain one keeps the laws, PWREN and the attempts being in order. -/
theorem SeqView.Kept.of_plain {top : Nat} {v w : SeqView} (hw : w.stage.plain = true)
    (hv : v.stage ≠ .empty) (hp : w.present = v.present) (power : v.Powered → w.Powered)
    (attempts : 1 ≤ top → v.Attempted top → w.attempts ≤ top) : SeqView.Kept top v w where
  power := power
  presence := fun h => iff_of_false (Stage.plain_spec hw).2.2.1
    fun e => hv (h.2 (hp ▸ e))
  attempts := fun ht ha => ⟨attempts ht ha, fun e => absurd e (Stage.plain_spec hw).2.2.2⟩

/-- PWREN after entry to RESETTING stands as the reset phase asks. -/
theorem SeqView.resetting_powered (v : SeqView) (k : Nat) (t : Time) : (v.resetting k t).Powered := by
  unfold SeqView.Powered SeqView.resetting
  cases v.pwren && decide (v.attempts + 1 < k) <;> simp [pwrenFits]

theorem SeqView.parked_powered {v : SeqView} (keep : Bool) (h : v.Powered) : (v.parked keep).Powered := by
  refine ⟨rfl, fun e => ?_⟩
  obtain ⟨hw, hk⟩ := Bool.and_eq_true_iff.1 e
  exact Bool.and_eq_true_iff.2 ⟨h.2 hw, hk⟩

theorem SeqView.Kept.resetting {top : Nat} {v : SeqView} (k : Nat) (t : Time) (hv : v.stage ≠ .empty)
    (ha : 1 ≤ top → v.Attempted top → v.attempts < top) : SeqView.Kept top v (v.resetting k t) :=
  .of_plain rfl hv rfl (fun _ => v.resetting_powered k t) ha

theorem SeqView.Kept.parked {top : Nat} {v : SeqView} (keep : Bool) (hv : v.stage ≠ .empty) :
    SeqView.Kept top v (v.parked keep) :=
  .of_plain rfl hv rfl (SeqView.parked_powered keep) fun _ h => h.1

theorem SeqView.failed_plain (v : SeqView) (p : SlotPolicy) (t : Time) :
    (v.failed p t).stage.plain = true := by
  unfold SeqView.failed
  split <;> rfl

theorem SeqView.Kept.failed {v : SeqView} (p : SlotPolicy) (t : Time) (hv : v.stage ≠ .empty) :
    SeqView.Kept p.maxAttempts v (v.failed p t) := by
  unfold SeqView.failed
  split
  · rename_i h
    exact .resetting _ _ hv fun _ _ => h
  · exact .parked _ hv

/-- A slot that is powered enters ADMITTED. -/
theorem SeqView.Kept.admitted {top : Nat} {v : SeqView} (hv : v.stage ≠ .empty)
    (hp : v.Powered → v.pwren = true) : SeqView.Kept top v v.admitted where
  power := fun h => ⟨hp h, fun _ => hp h⟩
  presence := fun h => iff_of_false (by simp [SeqView.admitted]) fun e => hv (h.2 e)
  attempts := fun _ _ => ⟨Nat.zero_le _, fun _ => rfl⟩

theorem Gone.keeps_of_plain {g : Settings} {n : SlotId} {b c : Bridge} {v : SeqView}
    (h : Gone g n b c v) (hw : v.stage.plain = true)
    (hk : SeqView.Kept (g.policy n).maxAttempts (b.slot n).view v) : Keeps g b c :=
  h.keeps (Stage.plain_spec hw).1 (Stage.plain_spec hw).2.1 hk

/-- An attempt failure keeps the laws, also of a slot that is between two states by then. -/
theorem Gone.keeps_attemptFailure {g : Settings} {n : SlotId} {b c : Bridge}
    (h : Gone g n b c (b.slot n).view) (hv : (b.slot n).stage ≠ .empty) (cause : Option ParkReason) :
    Keeps g b (c.attemptFailure g n cause) := by
  have k := h.trans (Gone.attemptFailure g c n cause)
  rw [h.self] at k
  exact k.keeps_of_plain (SeqView.failed_plain _ _ _) (.failed _ _ hv)

theorem Keeps.attemptFailure {g : Settings} {n : SlotId} {b : Bridge} (hv : (b.slot n).stage ≠ .empty)
    (cause : Option ParkReason) : Keeps g b (b.attemptFailure g n cause) :=
  (Gone.attemptFailure g b n cause).keeps_of_plain (SeqView.failed_plain _ _ _) (.failed _ _ hv)

/-! ### Triggers and losses -/

theorem Keeps.startRecovery {g : Settings} {n : SlotId} {b : Bridge}
    (hp : (b.slot n).stage = .fenced) : Keeps g b (b.startRecovery g n) := by
  refine ((Moved.startRecovery g b n).gone (by rw [hp]; nofun) (by rw [hp]; nofun)).keeps_of_plain rfl
    (.resetting _ _ (by simp [Slot.view, hp]) fun ht ha => ?_)
  have e : (b.slot n).view.attempts = 0 := ha.2 (.inr hp)
  omega

theorem Keeps.fenceAct {g : Settings} {n : SlotId} {b : Bridge} (hp : (b.slot n).stage = .admitted)
    (t : Trigger) : Keeps g b (b.fenceAct g n t) := by
  refine ((Moved.fenceAct g b n t).gone (by rw [hp]; nofun) (by rw [hp]; nofun)).keeps nofun nofun
    ⟨fun h => ?_, fun h => ?_, fun _ h => ⟨h.1, fun _ => h.2 (.inl hp)⟩⟩
  · have k : pwrenFits .admitted (b.slot n).view.pwren = true := hp ▸ h.1
    exact ⟨k, h.2⟩
  · exact iff_of_false nofun fun e => by
      have k : (b.slot n).stage = .empty := h.2 e
      rw [hp] at k
      cases k

theorem Bridge.fenceAct_stage (g : Settings) (b : Bridge) (n : SlotId) (t : Trigger) :
    ((b.fenceAct g n t).slot n).stage = .fenced :=
  congrArg SeqView.stage (Moved.fenceAct g b n t).self

theorem Keeps.takeTrigger (g : Settings) (b : Bridge) (n : SlotId) (t : Trigger) :
    Keeps g b (b.takeTrigger g n t) := by
  have h := Unmoved.countFenceEvent g b n
  have e : ((b.countFenceEvent n).slot n).stage = (b.slot n).stage := Slot.stage_of_view (h.view n)
  have fails : (b.slot n).stage ≠ .empty →
      Keeps g b ((b.countFenceEvent n).attemptFailure g n t.attemptCause) := fun hv =>
    h.trans_keeps (Keeps.attemptFailure (by rw [e]; exact hv) _)
  unfold Bridge.takeTrigger
  simp only
  split
  · rename_i hs
    have k : Keeps g b ((b.countFenceEvent n).fenceAct g n t) :=
      h.trans_keeps (Keeps.fenceAct (by rw [e, hs]) t)
    split
    · exact k.trans (Keeps.startRecovery (Bridge.fenceAct_stage g _ n t))
    · exact k
  case h_2 hs => exact fails (by rw [hs]; nofun)
  case h_3 hs => exact fails (by rw [hs]; nofun)
  case h_4 hs => exact fails (by rw [hs]; nofun)
  all_goals exact h.keeps

/-- A slot that leaves its state for a loss is in no queue, its record as it was but for the state of a fenced one. -/
theorem Gone.leaveByLoss (g : Settings) (b : Bridge) (n : SlotId) (t : Trigger) :
    ∃ x, Gone g n b (b.leaveByLoss g n t) { (b.slot n).view with stage := x } := by
  unfold Bridge.leaveByLoss
  split
  · rename_i hs
    exact ⟨.fenced, (Moved.fenceAct g b n t).gone (by rw [hs]; nofun) (by rw [hs]; nofun)⟩
  · exact ⟨(b.slot n).stage, Gone.leave g b n⟩

/-- The counted event of a loss and the slot's departure. -/
theorem Gone.countAndLeave (g : Settings) (b : Bridge) (n : SlotId) (t : Trigger) :
    ∃ x, Gone g n b ((b.countFenceEvent n).leaveByLoss g n t) { (b.slot n).view with stage := x } := by
  have h := Unmoved.countFenceEvent g b n
  obtain ⟨x, k⟩ := Gone.leaveByLoss g (b.countFenceEvent n) n t
  rw [h.view n] at k
  exact ⟨x, h.trans_gone k⟩

theorem Gone.presenceLoss {g : Settings} {b : Bridge} {n : SlotId} (hv : (b.slot n).stage ≠ .empty) :
    Gone g n b (b.presenceLoss g n) ((b.slot n).view.unpowered .empty) := by
  unfold Bridge.presenceLoss
  split
  · rename_i hs
    exact absurd hs hv
  · obtain ⟨x, h⟩ := Gone.countAndLeave g b n .presenceLost
    have k := Moved.enterUnpowered g ((b.countFenceEvent n).leaveByLoss g n .presenceLost) n .empty
    rw [h.self] at k
    exact (h.trans_moved k).trans_unmoved (.raise g _ g _)

theorem SeqView.Kept.unpoweredOff {top : Nat} {v : SeqView} (hv : v.stage ≠ .empty) :
    SeqView.Kept top v (v.unpowered .off) :=
  .of_plain rfl hv rfl (fun _ => ⟨rfl, nofun⟩) fun _ _ => Nat.zero_le _

/-- PWREN off where it may be off. -/
theorem Keeps.pwrenOff {g : Settings} {n : SlotId} {b : Bridge}
    (h : (b.slot n).stage = .parked ∨ (b.slot n).stage = .empty ∨ (b.slot n).stage = .off) :
    Keeps g b (b.pwrenOff n) := by
  refine (Moved.pwrenOff g b n).keeps Iff.rfl Iff.rfl ⟨fun _ => ⟨?_, nofun⟩, id, fun _ => id⟩
  have e : (b.slot n).view.stage = (b.slot n).stage := rfl
  rcases h with h | h | h <;> simp only [e, h] <;> rfl

theorem Keeps.parkByLoss {g : Settings} {b : Bridge} {n : SlotId} (hv : (b.slot n).stage ≠ .empty) :
    Keeps g b (((b.countFenceEvent n).leaveByLoss g n .powerLost).enterParked g n (some .powerLost)
      false) := by
  obtain ⟨x, h⟩ := Gone.countAndLeave g b n .powerLost
  have k := Moved.enterParked g ((b.countFenceEvent n).leaveByLoss g n .powerLost) n (some .powerLost)
    false
  rw [h.self] at k
  refine (h.trans_moved k).keeps_of_plain rfl (.of_plain rfl hv rfl (fun hp => ?_) fun _ ha => ha.1)
  exact ⟨rfl, fun e => absurd e (by simp [SeqView.parked])⟩

theorem Keeps.powerLoss (g : Settings) (b : Bridge) (n : SlotId) : Keeps g b (b.powerLoss g n) := by
  have h := Unmoved.countFenceEvent g b n
  have e : ((b.countFenceEvent n).slot n).stage = (b.slot n).stage := Slot.stage_of_view (h.view n)
  unfold Bridge.powerLoss
  refine Keeps.trans_unmoved ?_ (.raise g _ g _)
  split
  case h_8 hs => exact h.trans_keeps (Keeps.pwrenOff (.inl (by rw [e, hs])))
  case h_9 hs => exact h.trans_keeps (Keeps.pwrenOff (.inr (.inl (by rw [e, hs]))))
  case h_10 hs => exact h.trans_keeps (Keeps.pwrenOff (.inr (.inr (by rw [e, hs]))))
  all_goals
    rename_i hs
    exact Keeps.parkByLoss (by rw [hs]; nofun)

theorem Keeps.powerFault {g : Settings} {b : Bridge} {n : SlotId} (hv : (b.slot n).stage ≠ .empty) :
    Keeps g b (b.powerFault g n) := by
  have h := Gone.leave g b n
  have k := Moved.enterParked g (b.leave g n) n (some .powerFault) false
  rw [h.self] at k
  exact ((h.trans_moved k).keeps_of_plain rfl (.parked _ hv)).trans_unmoved (.raise g _ g _)

theorem Keeps.powerOffSlot {g : Settings} {b : Bridge} {n : SlotId} (hv : (b.slot n).stage ≠ .empty) :
    Keeps g b (b.powerOffSlot g n) := by
  have h := Gone.leave g b n
  have k := Moved.enterUnpowered g (b.leave g n) n .off
  rw [h.self] at k
  exact (h.trans_moved k).keeps_of_plain rfl (.unpoweredOff hv)

/-! ### Entries to the queues -/

/-- A slot in no queue that enters phase QUEUED at the end of the Power Queue. -/
theorem Apart.joinPower {n : SlotId} {b : Bridge} (h : Apart n b)
    (hs : (b.slot n).stage = .powering .queued) :
    Queued { b with powerQueue := b.powerQueue ++ [n] } := by
  refine ⟨List.nodup_append.2 ⟨h.powerNodup, List.nodup_singleton n, ?_⟩, h.qualNodup, fun m => ?_⟩
  · rintro x hx y hy rfl
    exact h.power (List.mem_singleton.1 hy ▸ hx)
  · by_cases e : m = n
    · subst e
      refine ⟨iff_of_true (by simp) hs, iff_of_false (fun x => x.elim h.qual h.served) ?_,
        fun x => h.qual x.1⟩
      intro k
      have k' : (b.slot m).stage = .qualifying := k
      rw [hs] at k'
      cases k'
    · exact (h.others m e).congr (by simp [e]) Iff.rfl Iff.rfl rfl

/-- A slot in no queue that enters QUALIFYING at the end of the Qualification Queue. -/
theorem Apart.joinQual {n : SlotId} {b : Bridge} (h : Apart n b)
    (hs : (b.slot n).stage = .qualifying) : Queued { b with qualQueue := b.qualQueue ++ [n] } := by
  refine ⟨h.powerNodup, List.nodup_append.2 ⟨h.qualNodup, List.nodup_singleton n, ?_⟩, fun m => ?_⟩
  · rintro x hx y hy rfl
    exact h.qual (List.mem_singleton.1 hy ▸ hx)
  · by_cases e : m = n
    · subst e
      refine ⟨iff_of_false h.power ?_, iff_of_true (.inl (by simp)) hs, fun x => h.served x.2⟩
      intro k
      have k' : (b.slot m).stage = .powering .queued := k
      rw [hs] at k'
      cases k'
    · exact (h.others m e).congr Iff.rfl (by simp [e]) Iff.rfl rfl

theorem Keeps.enterPowering {g : Settings} {b c : Bridge} {n : SlotId} {v : SeqView}
    (h : Gone g n b c v) (hk : SeqView.Kept (g.policy n).maxAttempts (b.slot n).view
      { v with stage := .powering .queued }) : Keeps g b (c.enterPowering g n) := by
  have k := (h.trans_unmoved (.srstEntry g c n)).trans_moved
    (.setStage g (c.srstEntry g n) n (.powering .queued))
  have hv : ((c.srstEntry g n).slot n).view = v := by rw [(Unmoved.srstEntry g c n).view n, h.self]
  rw [hv] at k
  refine Keeps.of_view (k.toStores.trans (.of_queues g _ _ _ _)) k.self k.others hk fun hb => ?_
  exact (k.away hb).joinPower (congrArg SeqView.stage k.self)

theorem Keeps.enterQualifying {g : Settings} {b c : Bridge} {n : SlotId} {v : SeqView}
    (h : Gone g n b c v) (hk : SeqView.Kept (g.policy n).maxAttempts (b.slot n).view
      { v with stage := .qualifying }) : Keeps g b (c.enterQualifying n) := by
  have k := h.trans_moved (.setStage g c n .qualifying)
  rw [h.self] at k
  refine Keeps.of_view (k.toStores.trans (.of_queues g _ _ _ _)) k.self k.others hk fun hb => ?_
  exact (k.away hb).joinQual (congrArg SeqView.stage k.self)

end Sys2Proof.Machine
end

section
/-! PROOFS. The shadow, the replays, the qualification engine and the settling at the end of a step keep every law of
the bridge. -/

namespace Sys2Proof.Machine

open Sys2Proof Sys2Proof.Safety

/-! ### The shadow's lists (spec/07, R146) -/

/-- Lists that hold some of the records there were, in any order, keep the law of the shadow. -/
theorem ListsFit.subperm {limit : SlotId → Nat} {l l' : SlotId → List ShadowKey}
    (h : ∀ n, (l' n).Subperm (l n)) (hl : ListsFit limit l) : ListsFit limit l' := fun n => by
  obtain ⟨h1, h2, h3, h4⟩ := hl n
  have nodup : ∀ {α : Type} (f : ShadowKey → α), ((l n).map f).Nodup → ((l' n).map f).Nodup := by
    intro α f hf
    obtain ⟨k, hk, hs⟩ := h n
    exact (hk.map f).nodup_iff.1 (hf.sublist (hs.map f))
  exact ⟨Nat.le_trans (h n).length_le h1, nodup _ h2, nodup _ h3,
    fun m hm x hx y hy => h4 m hm x ((h m).subset hx) y ((h n).subset hy)⟩

/-- A record of a new key and a free number, in a list below its limit, keeps the law of the shadow. -/
theorem ListsFit.append {limit : SlotId → Nat} {l l' : SlotId → List ShadowKey} {n : SlotId}
    {k : ShadowKey} (hl : ListsFit limit l) (hn : l' n = l n ++ [k]) (ho : ∀ m, m ≠ n → l' m = l m)
    (hlt : (l n).length < limit n)
    (hkey : ∀ x ∈ l n, (x.function, x.offset) ≠ (k.function, k.offset))
    (hfree : ∀ m, ∀ x ∈ l m, x.number ≠ k.number) : ListsFit limit l' := fun m => by
  by_cases e : m = n
  · subst e
    obtain ⟨h1, h2, h3, h4⟩ := hl m
    rw [hn]
    refine ⟨by simpa using hlt, ?_, ?_, fun p hp x hx y hy => ?_⟩
    · rw [List.map_append, List.nodup_append]
      refine ⟨h2, List.nodup_singleton _, ?_⟩
      rintro a ha b hb rfl
      obtain ⟨x, hx, rfl⟩ := List.mem_map.1 ha
      exact hkey x hx (by simpa using hb)
    · rw [List.map_append, List.nodup_append]
      refine ⟨h3, List.nodup_singleton _, ?_⟩
      rintro a ha b hb rfl
      obtain ⟨x, hx, rfl⟩ := List.mem_map.1 ha
      exact hfree m x hx (by simpa using hb)
    · rw [ho p hp] at hx
      rcases List.mem_append.1 hy with hy | hy
      · exact h4 p hp x hx y hy
      · rw [List.mem_singleton.1 hy]; exact hfree p x hx
  · obtain ⟨h1, h2, h3, h4⟩ := hl m
    rw [ho m e]
    refine ⟨h1, h2, h3, fun p hp x hx y hy => ?_⟩
    by_cases e' : p = n
    · subst e'
      rw [hn] at hx
      rcases List.mem_append.1 hx with hx | hx
      · exact h4 p hp x hx y hy
      · rw [List.mem_singleton.1 hx]; exact fun e'' => hfree m y hy e''.symm
    · rw [ho p e'] at hx
      exact h4 p hp x hx y hy

/-- A record that moves to the end of its list. -/
theorem eraseIdx_append_perm {l : List ShadowKey} {p : Nat} {x : ShadowKey} (h : l[p]? = some x) :
    (l.eraseIdx p ++ [x]).Perm l := by
  obtain ⟨hp, rfl⟩ := List.getElem?_eq_some_iff.1 h
  exact (List.perm_append_singleton _ _).trans (List.getElem_cons_eraseIdx_perm hp)

theorem keyPosition_none {function : BitVec 3} {offset : BitVec 12} {l : List ShadowKey}
    (h : keyPosition function offset l = none) :
    ∀ x ∈ l, (x.function, x.offset) ≠ (function, offset) := fun x hx e => by
  have k := List.findIdx?_eq_none_iff.1 h x hx
  simp only [Prod.mk.injEq] at e
  simp [e.1, e.2] at k

/-- The key of a record that has left its list stands in the list no more. -/
theorem key_notMem_eraseIdx {l : List ShadowKey} {p : Nat} {x : ShadowKey}
    (hl : (l.map fun x => (x.function, x.offset)).Nodup) (h : l[p]? = some x) :
    ∀ y ∈ l.eraseIdx p, (y.function, y.offset) ≠ (x.function, x.offset) := fun y hy e => by
  have k := ((eraseIdx_append_perm h).map fun x => (x.function, x.offset)).nodup_iff.2 hl
  rw [List.map_append, List.nodup_append] at k
  exact k.2.2 _ (List.mem_map_of_mem hy) _ (by simp) e

theorem Bridge.lowestFreeRecord_free {b : Bridge} {k : RecordId} (h : b.lowestFreeRecord = some k) :
    ∀ m, ∀ x ∈ (b.slot m).shadow, x.number ≠ k := fun m x hx e => by
  have hk := (find?_finRange_eq_some.1 h).1
  rw [Bool.not_eq_true', ← Bool.not_eq_true, b.recordTaken_iff] at hk
  exact hk ⟨m, x, hx, e⟩

/-! ### Operations on the shadow -/

theorem Unmoved.writeShadow (g : Settings) (b : Bridge) (k : RecordId) (u : BitVec 4) (v : Word) :
    Unmoved g b (b.writeShadow k u v) := .of_slots fun _ => rfl

theorem Unmoved.setIncomplete (g : Settings) (b : Bridge) (n : SlotId) :
    Unmoved g b (b.setIncomplete n) :=
  Unmoved.modSlot (Calm.modSlot_of_same rfl rfl rfl rfl rfl rfl) rfl

theorem Unmoved.noteCorrection (g : Settings) (b : Bridge) (k : Settings) :
    Unmoved g b (b.noteCorrection k) := .of_ort (OrtOnly.noteCorrection b k) (.noteCorrection b k)

theorem Unmoved.noteUncorrectable (g : Settings) (b : Bridge) (k : Settings) (w : LatchedWord)
    (n : SlotId) (e : ReadEvent) : Unmoved g b (b.noteUncorrectable k w n e) :=
  .of_ort (OrtOnly.noteUncorrectable b k w n e) (.of_ort (Bridge.raise_ort _ _ _))

/-- A change of one slot that writes the shadow's list and the replay's cursor, and nothing else that a law names. -/
structure ListWritten (s t : Slot) : Prop where
  egress : t.egress = s.egress
  ingress : t.ingress = s.ingress
  upQueue : t.upQueue = s.upQueue
  fault : t.fault = s.fault
  suspicion : t.suspicion = s.suspicion
  view : ∃ f, t.view = { s.view with stage := s.stage.mapCursor f }

theorem Stage.mapCursor_eq_iff (f : Nat → Nat) (x : Stage) {y : Stage} (hy : ∀ r, y ≠ .restoring r) :
    x.mapCursor f = y ↔ x = y := by
  cases x <;> simp only [Stage.mapCursor]
  rename_i r
  exact iff_of_false (Ne.symm (hy _)) (Ne.symm (hy _))

theorem pwrenFits_mapCursor (f : Nat → Nat) (x : Stage) (p : Bool) :
    pwrenFits (x.mapCursor f) p = pwrenFits x p := by
  cases x <;> rfl

/-- A change of the cursor keeps the laws of its slot. -/
theorem SeqView.Kept.mapCursor (top : Nat) (v : SeqView) (f : Nat → Nat) :
    SeqView.Kept top v { v with stage := v.stage.mapCursor f } where
  power := fun h => ⟨by rw [pwrenFits_mapCursor]; exact h.1, h.2⟩
  presence := fun h => (Stage.mapCursor_eq_iff f _ (y := .empty) nofun).trans h
  attempts := fun _ h => ⟨h.1, fun e => h.2 (e.imp (Stage.mapCursor_eq_iff f _ (y := .admitted) nofun).1
    (Stage.mapCursor_eq_iff f _ (y := .fenced) nofun).1)⟩

/-- A change of one slot's list keeps every law when the lists afterwards fit. -/
theorem Keeps.modSlot_of_list {g : Settings} {b c : Bridge} {n : SlotId} {f : Slot → Slot}
    (h : Keeps g b c) (hw : ListWritten (c.slot n) (f (c.slot n)))
    (hs : Shadowed g b → Shadowed g c → Shadowed g (c.modSlot n f)) :
    Keeps g b (c.modSlot n f) := by
  obtain ⟨x, hx⟩ := hw.view
  have hv : ((c.modSlot n f).slot n).view
      = { (c.slot n).view with stage := (c.slot n).stage.mapCursor x } := by
    rw [Bridge.slot_modSlot_self, hx]
  have ho : ∀ m, m ≠ n → ((c.modSlot n f).slot m).view = (c.slot m).view := fun m hm => by
    rw [Bridge.slot_modSlot_ne c f hm]
  have hk : ∀ top, SeqView.Kept top (c.slot n).view
      { (c.slot n).view with stage := (c.slot n).stage.mapCursor x } := fun top => .mapCursor top _ x
  have stage : ∀ m {y : Stage}, (∀ r, y ≠ .restoring r) →
      (((c.modSlot n f).slot m).stage = y ↔ (c.slot m).stage = y) := fun m y hy => by
    by_cases e : m = n
    · subst e
      rw [show ((c.modSlot m f).slot m).stage = (c.slot m).stage.mapCursor x from
        congrArg SeqView.stage hv]
      exact Stage.mapCursor_eq_iff x _ hy
    · rw [Slot.stage_of_view (ho m e)]
  have q : Queued c → Queued (c.modSlot n f) := fun ⟨h1, h2, h3⟩ => ⟨h1, h2, fun m => by
    unfold Coupled
    rw [stage m (y := .powering .queued) nofun, stage m (y := .qualifying) nofun]
    exact h3 m⟩
  exact
    { rooms := fun hb => (h.rooms hb).modSlot (by
        rw [hw.egress, hw.ingress, hw.upQueue]; exact (h.rooms hb).2.2.2 n)
      counters := fun hb => (h.counters hb).modSlot (by
        unfold SlotCounted; rw [hw.fault, hw.suspicion]; exact id)
      shadow := fun hb => hs hb (h.shadow hb)
      pool := h.pool
      queues := q ∘ h.queues
      power := fun hp => forall_view_of_moved hv ho (hk 0).power (h.power hp)
      presence := fun hq hp => forall_view_of_moved hv ho (hk 0).presence (h.presence hq hp)
      attempts := fun ht ha => forall_view_of_moved
        (P := fun m w => w.Attempted (g.policy m).maxAttempts) hv ho ((hk _).attempts (ht n))
        (h.attempts ht ha) }

/-- A list that holds some of the records there were. -/
theorem Shadowed.modSlot_subperm {g : Settings} {b : Bridge} {n : SlotId} {f : Slot → Slot}
    (h : (f (b.slot n)).shadow.Subperm (b.slot n).shadow) (hb : Shadowed g b) :
    Shadowed g (b.modSlot n f) :=
  ListsFit.subperm (fun m => by
    rw [Bridge.slot_modSlot]
    split
    · rename_i e; rw [e]; exact h
    · exact (List.Perm.refl _).subperm) hb

theorem Keeps.removeRecord (g : Settings) (b : Bridge) (n : SlotId) (p : Nat) :
    Keeps g b (b.removeRecord n p) :=
  (Keeps.refl g b).modSlot_of_list
    ⟨rfl, rfl, rfl, rfl, rfl, fun c => if p < c then c - 1 else c, rfl⟩ fun _ =>
    Shadowed.modSlot_subperm (List.eraseIdx_sublist _ _).subperm

theorem Keeps.readShadow (g : Settings) (b : Bridge) (n : SlotId) (p : Nat) (x : ShadowKey)
    (e : ReadEvent) : Keeps g b (b.readShadow g n p x e).1 := by
  unfold Bridge.readShadow
  simp only
  split
  · exact .refl g b
  · exact ((Unmoved.writeShadow g b _ _ _).trans (.noteCorrection g _ g)).keeps
  · exact ((Keeps.removeRecord g b n p).trans_unmoved (.setIncomplete g _ n)).trans_unmoved
      (.noteUncorrectable g _ g _ n e)

/-- A read that gives contents leaves every slot's list, and one that gives none removes the record. -/
theorem Bridge.readShadow_cases (b : Bridge) (g : Settings) (n : SlotId) (p : Nat) (x : ShadowKey)
    (e : ReadEvent) :
    (∃ c u v, b.readShadow g n p x e = (c, some (u, v)) ∧
        ∀ m, (c.slot m).shadow = (b.slot m).shadow ∧ (c.slot m).stage = (b.slot m).stage) ∨
      ∃ c, b.readShadow g n p x e = (c, none) ∧ (c.slot n).shadow = (b.slot n).shadow.eraseIdx p ∧
        ∀ m, m ≠ n → (c.slot m).shadow = (b.slot m).shadow := by
  unfold Bridge.readShadow
  simp only
  split
  · exact .inl ⟨_, _, _, rfl, fun _ => ⟨rfl, rfl⟩⟩
  · refine .inl ⟨_, _, _, rfl, fun m => ?_⟩
    obtain ⟨y, hy⟩ := (OrtOnly.noteCorrection (b.writeShadow x.number
      (b.shadowWords.get x.number).union (b.shadowWords.get x.number).value) g).slot m
    rw [hy]
    exact ⟨rfl, rfl⟩
  · have h := (OrtOnly.noteUncorrectable ((b.removeRecord n p).setIncomplete n) g
      (.shadow x.number x.function x.offset) n e).slot
    refine .inr ⟨_, rfl, ?_, fun m hm => ?_⟩
    · obtain ⟨y, hy⟩ := h n
      rw [hy]
      simp [Bridge.setIncomplete, Bridge.removeRecord]
    · obtain ⟨y, hy⟩ := h m
      rw [hy]
      simp [Bridge.setIncomplete, Bridge.removeRecord, Bridge.slot_modSlot_ne _ _ hm]

/-- A new record keeps the laws where its list is below the limit and does not hold its key. -/
theorem Keeps.newShadowRecord {g : Settings} {b c : Bridge} (h : Keeps g b c) {n : SlotId}
    {function : BitVec 3} {offset : BitVec 12} (be : BitVec 4) (payload : Word)
    (hs : Shadowed g b → (c.slot n).shadow.length < (g.policy n).shadowLimit ∧
      ∀ x ∈ (c.slot n).shadow, (x.function, x.offset) ≠ (function, offset)) :
    Keeps g b (c.newShadowRecord n function offset be payload) := by
  unfold Bridge.newShadowRecord
  split
  · rename_i k hk
    refine (h.trans_unmoved (.writeShadow g c k be _)).modSlot_of_list
      ⟨rfl, rfl, rfl, rfl, rfl, id, ?_⟩ fun hb hc => ?_
    · generalize (c.writeShadow k be (mergeBytes be 0 payload)).slot n = s
      cases s with
      | mk stage => cases stage <;> rfl
    · obtain ⟨hlt, hkey⟩ := hs hb
      refine ListsFit.append (k := { number := k, function := function, offset := offset }) hc ?_ ?_
        hlt hkey (Bridge.lowestFreeRecord_free hk)
      · exact congrArg Slot.shadow (Bridge.slot_modSlot_self _ _ _)
      · exact fun m hm => congrArg Slot.shadow (Bridge.slot_modSlot_ne _ _ hm)
  · exact h

theorem Keeps.moveIfTaken {g : Settings} {b : Bridge} {n : SlotId} {p : Nat} {x : ShadowKey}
    (h : (b.slot n).shadow[p]? = some x) : Keeps g b (b.moveIfTaken n p x) := by
  unfold Bridge.moveIfTaken
  split
  · split
    · unfold Bridge.removeRecord
      rw [Bridge.modSlot_modSlot]
      refine Keeps.modSlot_of_list (.refl g b)
        ⟨rfl, rfl, rfl, rfl, rfl, fun c => if p < c then c - 1 else c, rfl⟩ fun _ => ?_
      exact Shadowed.modSlot_subperm (eraseIdx_append_perm h).subperm
    · exact .refl g b
  · exact .refl g b

theorem Keeps.mergeShadow {g : Settings} {b : Bridge} {n : SlotId} {p : Nat} {x : ShadowKey}
    (h : (b.slot n).shadow[p]? = some x) (be : BitVec 4) (payload : Word) :
    Keeps g b (b.mergeShadow g n p x be payload) := by
  have k := Keeps.readShadow g b n p x .merge
  unfold Bridge.mergeShadow
  rcases b.readShadow_cases g n p x .merge with ⟨c, u, v, e, hc⟩ | ⟨c, e, hc, -⟩
  · rw [e] at k ⊢
    have hx : ((c.writeShadow x.number (u ||| be) (mergeBytes be v payload)).slot n).shadow[p]?
        = some x := by
      rw [← h, ← (hc n).1]; rfl
    exact (k.trans_unmoved (.writeShadow g c _ _ _)).trans (Keeps.moveIfTaken hx)
  · rw [e] at k ⊢
    refine k.newShadowRecord be payload fun hb => ?_
    obtain ⟨h1, h2, -⟩ := hb n
    obtain ⟨hp, -⟩ := List.getElem?_eq_some_iff.1 h
    rw [hc]
    refine ⟨?_, key_notMem_eraseIdx h2 h⟩
    rw [List.length_eraseIdx_of_lt hp]
    dsimp only at h1
    omega

theorem Keeps.offerWrite (g : Settings) (b : Bridge) (n : SlotId) (bus : BitVec 8)
    (function : BitVec 3) (offset : BitVec 12) (be : BitVec 4) (payload : Word) :
    Keeps g b (b.offerWrite g n bus function offset be payload).1 := by
  unfold Bridge.offerWrite
  split
  · exact .refl g b
  split
  · exact .refl g b
  split
  · exact .refl g b
  split
  · split
    · rename_i x hx
      exact Keeps.mergeShadow hx be payload
    · exact .refl g b
  · rename_i hk
    split
    · rename_i hlt
      exact (Keeps.refl g b).newShadowRecord be payload fun _ => ⟨hlt, keyPosition_none hk⟩
    · exact (Unmoved.setIncomplete g b n).keeps

/-! ### The replay -/

/-- A move of slot `n` that ends outside the two queues and keeps the laws of its slot. -/
def Lands (g : Settings) (n : SlotId) (b c : Bridge) : Prop :=
  ∃ v, Gone g n b c v ∧ v.stage ≠ .powering .queued ∧ v.stage ≠ .qualifying ∧
    SeqView.Kept (g.policy n).maxAttempts (b.slot n).view v

theorem Lands.keeps {g : Settings} {n : SlotId} {b c : Bridge} (h : Lands g n b c) : Keeps g b c := by
  obtain ⟨v, hg, hp, hq, hk⟩ := h
  exact hg.keeps hp hq hk

theorem SeqView.Kept.trans {top : Nat} {u v w : SeqView} (h : SeqView.Kept top u v)
    (k : SeqView.Kept top v w) : SeqView.Kept top u w :=
  ⟨k.power ∘ h.power, k.presence ∘ h.presence, fun ht => k.attempts ht ∘ h.attempts ht⟩

/-- A departure and then a move that lands. -/
theorem Gone.trans_lands {g : Settings} {n : SlotId} {b c d : Bridge} {v : SeqView}
    (h : Gone g n b c v) (hk : SeqView.Kept (g.policy n).maxAttempts (b.slot n).view v)
    (k : Lands g n c d) : Lands g n b d := by
  obtain ⟨w, hg, hp, hq, hw⟩ := k
  rw [h.self] at hw
  exact ⟨w, h.trans hg, hp, hq, hk.trans hw⟩

theorem Unmoved.trans_lands {g : Settings} {n : SlotId} {b c d : Bridge} (h : Unmoved g b c)
    (k : Lands g n c d) : Lands g n b d := by
  obtain ⟨w, hg, hp, hq, hw⟩ := k
  rw [h.view n] at hw
  exact ⟨w, h.trans_gone hg, hp, hq, hw⟩

theorem Lands.attemptFailure {g : Settings} {b : Bridge} {n : SlotId} (hv : (b.slot n).stage ≠ .empty)
    (cause : Option ParkReason) : Lands g n b (b.attemptFailure g n cause) :=
  have hp := Stage.plain_spec (SeqView.failed_plain (b.slot n).view (g.policy n) b.now)
  ⟨_, Gone.attemptFailure g b n cause, hp.1, hp.2.1, .failed _ _ hv⟩

/-- A slot in RESTORING enters ADMITTED. -/
theorem Lands.enterAdmitted {g : Settings} {b : Bridge} {n : SlotId} {r : Replay}
    (hs : (b.slot n).stage = .restoring r) : Lands g n b (b.enterAdmitted g n) := by
  refine ⟨_, (Moved.enterAdmitted g b n).gone (by rw [hs]; nofun) (by rw [hs]; nofun), nofun, nofun,
    .admitted (by simp [Slot.view, hs]) fun h => ?_⟩
  have k : pwrenFits (.restoring r) (b.slot n).view.pwren = true := hs ▸ h.1
  exact k

/-- The replay of a slot in RESTORING goes on with another record of its own. -/
theorem SeqView.Kept.restoring {top : Nat} {v : SeqView} (r : Replay) (hv : v.stage ≠ .empty)
    (hp : v.Powered → v.pwren = true) :
    SeqView.Kept top v { v with stage := .restoring r } :=
  .of_plain rfl hv rfl (fun h => ⟨hp h, h.2⟩) fun _ h => h.1

theorem Lands.setReplay {g : Settings} {b : Bridge} {n : SlotId} {r : Replay}
    (hs : (b.slot n).stage = .restoring r) (r' : Replay) : Lands g n b (b.setReplay n r') := by
  refine ⟨_, (Moved.setReplay g b n r').gone (by rw [hs]; nofun) (by rw [hs]; nofun), nofun, nofun,
    .restoring r' (by simp [Slot.view, hs]) fun h => ?_⟩
  have k : pwrenFits (.restoring r) (b.slot n).view.pwren = true := hs ▸ h.1
  exact k

theorem Unmoved.writeReplayResult (g : Settings) (b : Bridge) (n : SlotId) (x : ReplayResult) :
    Unmoved g b (b.writeReplayResult n x) :=
  Unmoved.modSlot (Calm.modSlot_of_same rfl rfl rfl rfl rfl rfl) rfl

theorem Bridge.writeReplayResult_stage (b : Bridge) (n : SlotId) (x : ReplayResult) :
    ((b.writeReplayResult n x).slot n).stage = (b.slot n).stage := by
  unfold Bridge.writeReplayResult
  rw [Bridge.slot_modSlot_self]

theorem Lands.replayNext {g : Settings} {b : Bridge} {n : SlotId} {r : Replay}
    (hs : (b.slot n).stage = .restoring r) : Lands g n b (b.replayNext g n) := by
  have result : ∀ x, ((b.writeReplayResult n x).slot n).stage = .restoring r := fun x => by
    rw [Bridge.writeReplayResult_stage, hs]
  unfold Bridge.replayNext
  rw [hs]
  simp only
  split
  · exact (Unmoved.writeReplayResult g b n _).trans_lands
      (.attemptFailure (by rw [result]; nofun) _)
  · split
    · exact (Unmoved.writeReplayResult g b n _).trans_lands (.enterAdmitted (result _))
    · exact .setReplay hs _

theorem Keeps.replayNext (g : Settings) (b : Bridge) (n : SlotId) : Keeps g b (b.replayNext g n) := by
  rcases hs : (b.slot n).stage with _ | _ | _ | _ | _ | _ | r
  case restoring => exact (Lands.replayNext hs).keeps
  all_goals
    unfold Bridge.replayNext
    rw [hs]
    exact .refl g b

theorem Keeps.replayFail {g : Settings} {b : Bridge} {n : SlotId} (hv : (b.slot n).stage ≠ .empty)
    (cause : ReplayCause) (key : Option (BitVec 3 × BitVec 12)) (sent : Nat) :
    Keeps g b (b.replayFail g n cause key sent) :=
  (Unmoved.writeReplayResult g b n _).trans_keeps
    (.attemptFailure (by rw [Bridge.writeReplayResult_stage]; exact hv) _)

theorem Keeps.replayExpired (g : Settings) (b : Bridge) (n : SlotId) :
    Keeps g b (b.replayExpired g n) := by
  unfold Bridge.replayExpired
  split
  · rename_i hs
    exact .replayFail (by rw [hs]; nofun) _ _ _
  · exact .refl g b

theorem Keeps.replayAnswer (g : Settings) (b : Bridge) (n : SlotId) (i : BridgeTag) (x : Status) :
    Keeps g b (b.replayAnswer g n i x) := by
  unfold Bridge.replayAnswer
  split
  · rename_i r hs
    have hv : (b.slot n).stage ≠ .empty := by rw [hs]; nofun
    split
    · split
      · exact .replayNext g b n
      · exact .replayFail hv _ _ _
      · exact .replayFail hv _ _ _
      · split
        · exact (Lands.setReplay hs _).keeps
        · exact .replayFail hv _ _ _
    · exact .refl g b
  · exact .refl g b

theorem Keeps.replayRecheck (g : Settings) (b : Bridge) (n : SlotId) :
    Keeps g b (b.replayRecheck g n) := by
  unfold Bridge.replayRecheck
  split
  · split
    · split
      · exact .replayNext g b n
      · exact .refl g b
    all_goals exact .refl g b
  · exact .refl g b

/-! ### The engine -/

/-- The slot served by the engine is between two states once its run ends. -/
theorem Gone.endRun {g : Settings} {b : Bridge} {n : SlotId} (h : served b = some n) :
    Gone g n b b.endRun (b.slot n).view where
  toStores := .of_queues g b b.powerQueue b.qualQueue none
  self := rfl
  others := fun _ _ => rfl
  now := rfl
  away := fun ⟨h1, h2, h3⟩ => by
    obtain ⟨p, q, d⟩ := h3 n
    have hq : (b.slot n).stage = .qualifying := q.1 (.inr h)
    refine ⟨h1, h2, fun e => ?_, fun e => d ⟨e, h⟩, nofun, fun m hm => ?_⟩
    · have k := p.1 e
      rw [hq] at k
      cases k
    · refine (h3 m).congr Iff.rfl Iff.rfl (iff_of_false nofun fun e => ?_) rfl
      rw [h] at e
      exact hm (Option.some.inj e).symm
  apart := fun ha => absurd h ha.served

theorem Queued.stage_of_served {b : Bridge} {n : SlotId} (h : served b = some n) (hb : Queued b) :
    (b.slot n).stage = .qualifying := (hb.2.2 n).2.1.1 (.inr h)

theorem Unmoved.writeQualResult (g : Settings) (b : Bridge) (n : SlotId) (x : QualResult) :
    Unmoved g b (b.writeQualResult n x) :=
  Unmoved.modSlot (Calm.modSlot_of_same rfl rfl rfl rfl rfl rfl) rfl

/-- A slot that is served no more and stays in its state was not QUALIFYING, so it was not served. -/
theorem Keeps.of_not_qualifying {g : Settings} {b c : Bridge} {n : SlotId}
    (h : Gone g n b c (b.slot n).view) (hs : (b.slot n).stage ≠ .qualifying)
    (hq : Queued b → (b.slot n).stage = .qualifying) : Keeps g b c :=
  .of_view h.toStores h.self h.others (.refl _ _) fun hb => absurd (hq hb) hs

/-- A slot in QUALIFYING enters RESTORING and goes on at once (spec/07, R155). -/
theorem Lands.enterRestoring {g : Settings} {b c : Bridge} {n : SlotId}
    (h : Gone g n b c (b.slot n).view) (hs : (b.slot n).stage = .qualifying) :
    Lands g n b (c.enterRestoring g n) := by
  unfold Bridge.enterRestoring
  have k := h.trans_moved (.setStage g c n (.restoring
    { cursor := 0, activity := .issueWait c.now, copy := none, retryCount := 0,
      retryLimit := (g.slot n).script.retryLimit,
      retryInterval := (g.slot n).script.retryInterval, sent := 0 }))
  rw [h.self] at k
  refine k.trans_lands (.restoring _ (by simp [Slot.view, hs]) fun hp => ?_)
    (.replayNext (Bridge.setStage_stage c n _))
  have e : pwrenFits .qualifying (b.slot n).view.pwren = true := hs ▸ hp.1
  exact e

theorem Keeps.runPass {g : Settings} {b c : Bridge} {n : SlotId} (h : Gone g n b c (b.slot n).view)
    (hr : c.run = none) (hq : Queued b → (b.slot n).stage = .qualifying) :
    Keeps g b (c.runPass g n) := by
  have hc : c.endRun = c := by cases c; cases hr; rfl
  have k := h.trans_unmoved (.writeQualResult g c n .pass)
  have stage : (c.slot n).stage = (b.slot n).stage := congrArg SeqView.stage h.self
  unfold Bridge.runPass
  rw [hc]
  simp only
  split
  · rename_i hs
    rw [stage] at hs
    split
    · exact (Lands.enterRestoring k hs).keeps
    · have m := Moved.enterAdmitted g (c.writeQualResult n .pass) n
      rw [k.self] at m
      refine (k.trans_moved m).keeps nofun nofun (.admitted (by simp [Slot.view, hs]) fun hp => ?_)
      have e : pwrenFits .qualifying (b.slot n).view.pwren = true := hs ▸ hp.1
      exact e
  · rename_i hs
    rw [stage] at hs
    exact .of_not_qualifying k hs hq

theorem Keeps.stepFail {g : Settings} {b : Bridge} {r : Run} (h : served b = some r.slot)
    (cause : StepCause) (observed : Option Word) : Keeps g b (b.stepFail g r cause observed) := by
  have k := (Gone.endRun (g := g) h).trans_unmoved
    (.writeQualResult g b.endRun r.slot (.fail r.index cause observed))
  unfold Bridge.stepFail
  simp only
  split
  · rename_i hs
    exact k.keeps_attemptFailure (by rw [hs]; nofun) _
  · rename_i hs
    exact .of_not_qualifying k hs (Queued.stage_of_served h)

/-- The engine serves a slot in QUALIFYING that stood in no queue. -/
theorem Apart.serve {n : SlotId} {b : Bridge} (h : Apart n b) (hr : b.run = none)
    (hs : (b.slot n).stage = .qualifying) {r : Run} (hn : r.slot = n) :
    Queued { b with run := some r } := by
  have e : ∀ m, Safety.served { b with run := some r } = some m ↔ m = n := fun m => by
    simp [Safety.served, hn, eq_comm]
  refine ⟨h.powerNodup, h.qualNodup, fun m => ?_⟩
  by_cases hm : m = n
  · subst hm
    refine ⟨iff_of_false h.power fun k => ?_, iff_of_true (.inr ((e m).2 rfl)) hs,
      fun x => h.qual x.1⟩
    have k' : (b.slot m).stage = .powering .queued := k
    rw [hs] at k'
    cases k'
  · exact (h.others m hm).congr Iff.rfl Iff.rfl
      (iff_of_false (fun x => hm ((e m).1 x)) (by simp [Safety.served, hr])) rfl

theorem Keeps.beginStep {g : Settings} {b c : Bridge} {n : SlotId} (h : Gone g n b c (b.slot n).view)
    (hr : c.run = none) (hq : Queued b → (b.slot n).stage = .qualifying) (script : Script)
    (index : Nat) : Keeps g b (c.beginStep g n script index) := by
  have pass := Keeps.runPass h hr hq
  unfold Bridge.beginStep
  split
  · split
    · exact .of_view (h.toStores.trans (.of_queues g c c.powerQueue c.qualQueue _)) h.self h.others
        (.refl _ _) fun hb =>
          (h.away hb).serve hr ((congrArg SeqView.stage h.self).trans (hq hb)) rfl
    · exact pass
  · exact pass

theorem Bridge.beginStep_endRun (b : Bridge) (g : Settings) (n : SlotId) (script : Script)
    (index : Nat) : b.endRun.beginStep g n script index = b.beginStep g n script index := rfl

theorem served_of_run {b : Bridge} {r : Run} (h : b.run = some r) : served b = some r.slot := by
  simp [served, h]

theorem Keeps.stepPass {g : Settings} {b : Bridge} {r : Run} (h : served b = some r.slot) :
    Keeps g b (b.stepPass g r) := by
  unfold Bridge.stepPass
  rw [← Bridge.beginStep_endRun]
  exact .beginStep (.endRun h) rfl (Queued.stage_of_served h) _ _

theorem Keeps.startRun {g : Settings} {b : Bridge} {n : SlotId} {rest : List SlotId}
    (hr : b.run = none) (hq : b.qualQueue = n :: rest) : Keeps g b (b.startRun g n rest) := by
  have hn : n ∈ b.qualQueue := by rw [hq]; exact List.mem_cons_self
  have gone : Gone g n b { b with qualQueue := rest } (b.slot n).view :=
    { toStores := .of_queues g b b.powerQueue rest b.run
      self := rfl
      others := fun _ _ => rfl
      now := rfl
      away := fun ⟨h1, h2, h3⟩ => by
        have hs := (h3 n).2.1.1 (.inl hn)
        rw [hq, List.nodup_cons] at h2
        refine ⟨h1, h2.2, fun e => ?_, h2.1, by simp [served, hr], fun m hm => ?_⟩
        · have k := (h3 n).1.1 e
          rw [hs] at k
          cases k
        · exact (h3 m).congr Iff.rfl (by simp [hq, hm]) Iff.rfl rfl
      apart := fun ha => absurd hn ha.qual }
  exact .beginStep gone hr (fun hb => (hb.2.2 n).2.1.1 (.inl hn)) _ _

/-- The run goes on with another activity, half or retry count for its slot. -/
theorem Unmoved.setRun {g : Settings} {b : Bridge} {r r' : Run} (h : b.run = some r)
    (hs : r'.slot = r.slot) : Unmoved g b { b with run := some r' } :=
  .of_slots (fun _ => rfl) (hv := by simp [served, h, hs])

theorem Keeps.scriptRetry {g : Settings} {b : Bridge} {r : Run} (h : b.run = some r) :
    Keeps g b (b.scriptRetry g r) := by
  unfold Bridge.scriptRetry
  split
  · refine Unmoved.keeps (Unmoved.setRun h ?_)
    rfl
  · exact .stepFail (served_of_run h) _ _

theorem Keeps.scriptSuccess {g : Settings} {b : Bridge} {r : Run} (h : b.run = some r)
    (x : ScriptStep) (w : Word) : Keeps g b (b.scriptSuccess g r x w) := by
  have pass := Keeps.stepPass (g := g) (served_of_run h)
  have fails := fun cause observed => Keeps.stepFail (g := g) (served_of_run h) cause observed
  unfold Bridge.scriptSuccess
  split
  · simp only
    split
    all_goals
      split
      · exact pass
      · exact fails _ _
  · exact pass
  · split
    · split
      · exact pass
      · exact fails _ _
    · refine Unmoved.keeps (Unmoved.setRun h ?_)
      rfl
  · exact .refl g b

theorem Keeps.scriptAnswer (g : Settings) (b : Bridge) (i : BridgeTag) (x : Status) (data : List Byte) :
    Keeps g b (b.scriptAnswer g i x data) := by
  unfold Bridge.scriptAnswer
  split
  · rename_i r h
    split
    · split
      · split
        · exact .scriptSuccess h _ _
        · exact .refl g b
      · exact .stepFail (served_of_run h) _ _
      · exact .stepFail (served_of_run h) _ _
      · exact .scriptRetry h
    · exact .refl g b
  · exact .refl g b

theorem Keeps.scriptExpired (g : Settings) (b : Bridge) (i : BridgeTag) :
    Keeps g b (b.scriptExpired g i) := by
  unfold Bridge.scriptExpired
  split
  · rename_i r h
    split
    · exact .stepFail (served_of_run h) _ _
    · exact .refl g b
  · exact .refl g b

/-! ### Settling -/

theorem Keeps.settleOne (g : Settings) (b : Bridge) : Keeps g b (b.settleOne g) := by
  rcases b.settleOne_cases g with ⟨i, e⟩ | ⟨n, e⟩ | ⟨n, rest, hr, hq, e⟩ | e
  · rw [e]; exact .scriptExpired g b i
  · rw [e]; exact .replayExpired g b n
  · rw [e]; exact .startRun hr hq
  · rw [e]; exact .refl g b

/-- What is settled at the end of a step keeps every law (log 6). -/
theorem Keeps.settle {g : Settings} {b c : Bridge} (h : Keeps g b c) : Keeps g b (c.settle g) :=
  Bridge.settle_keeps g (fun d hd => hd.trans (.settleOne g d)) h

end Sys2Proof.Machine
end

section
/-! PROOFS. The queues and the allocation of an entry; the commands of the host's side and of a card's side keep every
law of the bridge. -/

namespace Sys2Proof.Machine

open Sys2Proof Sys2Proof.Safety

/-! ### Queues -/

theorem egressHasRoom_iff (b : Bridge) (n : SlotId) :
    b.egressHasRoom n = true ↔ (b.slot n).egress.length < 32 := decide_eq_true_iff

theorem upQueueHasRoom_iff (b : Bridge) (n : SlotId) :
    b.upQueueHasRoom n = true ↔ (b.slot n).upQueue.length < 32 := decide_eq_true_iff

theorem bridgeQueueHasRoom_iff (b : Bridge) :
    b.bridgeQueueHasRoom = true ↔ b.bridgeQueue.length < 64 := decide_eq_true_iff

theorem length_snoc_le {α : Type} {l : List α} {k : Nat} (x : α) (h : l.length < k) :
    (l ++ [x]).length ≤ k := by
  rw [List.length_append, List.length_singleton]
  exact h

theorem length_tail_le {α : Type} (l : List α) : l.tail.length ≤ l.length := by
  rw [List.length_tail]
  exact Nat.sub_le _ _

theorem Unmoved.pushEgress (g : Settings) {b : Bridge} {n : SlotId} (h : b.egressHasRoom n = true)
    (x : EgressClass) (t : Transaction) : Unmoved g b (b.pushEgress n x t) :=
  Unmoved.modSlot (Calm.modSlot_of_room
    (fun hr => ⟨length_snoc_le _ ((egressHasRoom_iff b n).1 h), hr.2⟩) id rfl) rfl

theorem Unmoved.pushUpQueue (g : Settings) {b : Bridge} {n : SlotId} (h : b.upQueueHasRoom n = true)
    (t : Transaction) : Unmoved g b (b.pushUpQueue n t) :=
  Unmoved.modSlot (Calm.modSlot_of_room
    (fun hr => ⟨hr.1, hr.2.1, length_snoc_le _ ((upQueueHasRoom_iff b n).1 h)⟩) id rfl) rfl

theorem Unmoved.pushBridgeQueue (g : Settings) {b : Bridge} (h : b.bridgeQueueHasRoom = true)
    (t : Transaction) : Unmoved g b (b.pushBridgeQueue t) :=
  .of_slots (fun _ => rfl) (hq := fun _ => length_snoc_le _ ((bridgeQueueHasRoom_iff b).1 h))

theorem Unmoved.popUpstream (g : Settings) (b : Bridge) : Unmoved g b b.popUpstream :=
  .of_slots (fun _ => rfl) (hu := Nat.le_trans (length_tail_le _))

theorem Unmoved.popCard (g : Settings) (b : Bridge) (n : SlotId) : Unmoved g b (b.popCard n) :=
  Unmoved.modSlot (Calm.modSlot ⟨Nat.le_refl _, length_tail_le _, Nat.le_refl _, id⟩ rfl) rfl

theorem Bridge.slot_popCard (b : Bridge) (n m : SlotId) :
    ((b.popCard n).slot m).egress = (b.slot m).egress ∧
      ((b.popCard n).slot m).upQueue = (b.slot m).upQueue := by
  unfold Bridge.popCard
  rw [Bridge.slot_modSlot]
  split
  · rename_i e; rw [e]; exact ⟨rfl, rfl⟩
  · exact ⟨rfl, rfl⟩

/-- Nothing that leaves a Card Ingress Queue makes or takes room for its destination. -/
theorem Bridge.egressHasRoom_popCard (b : Bridge) (n m : SlotId) :
    (b.popCard n).egressHasRoom m = b.egressHasRoom m := by
  unfold Bridge.egressHasRoom
  rw [(b.slot_popCard n m).1]

theorem Bridge.upQueueHasRoom_popCard (b : Bridge) (n m : SlotId) :
    (b.popCard n).upQueueHasRoom m = b.upQueueHasRoom m := by
  unfold Bridge.upQueueHasRoom
  rw [(b.slot_popCard n m).2]

/-! ### Allocation (spec/02, R28, R30) -/

theorem Bridge.status_allocate (b : Bridge) (i j : BridgeTag) (a : SlotId) (r : EntryRecord) :
    (b.allocate i a r).status j = if j = i then .inUse a r else b.status j := by
  unfold Bridge.allocate
  split
  · rename_i e; rw [e, Bridge.status_putStatus_self]
  · rename_i e; rw [Bridge.status_putStatus_ne _ _ e]

/-- An allocation counts at most one more entry, against its account alone. -/
theorem Bridge.inUseCount_allocate_le (b : Bridge) (i : BridgeTag) (a : SlotId) (r : EntryRecord)
    (n : SlotId) :
    (b.allocate i a r).inUseCount n ≤ b.inUseCount n + if n = a then 1 else 0 := by
  have point : ∀ j, decide (((b.allocate i a r).status j).account = some n) = true →
      (decide ((b.status j).account = some n) || (decide (n = a) && decide (j = i))) = true := by
    intro j hj
    rw [Bridge.status_allocate] at hj
    split at hj
    · rename_i e
      have k : n = a := by simpa [EntryStatus.account, eq_comm] using hj
      simp [k, e]
    · rw [hj]; rfl
  unfold Bridge.inUseCount
  simp only [← List.countP_eq_length_filter]
  have le := List.countP_mono_left (l := allTags) fun j _ => point j
  have one : allTags.countP (fun j => decide (n = a) && decide (j = i)) ≤ if n = a then 1 else 0 := by
    split
    · rename_i e
      simp only [e, decide_true, Bool.true_and]
      exact List.nodup_iff_count_le_one.1 (List.nodup_finRange 256) i
    · rename_i e
      simp [e]
  have sum : ∀ (p q : BridgeTag → Bool) (l : List BridgeTag),
      l.countP (fun j => p j || q j) ≤ l.countP p + l.countP q := by
    intro p q l
    induction l with
    | nil => simp
    | cons x rest ih =>
      simp only [List.countP_cons]
      cases p x <;> cases q x <;> simp <;> omega
  exact Nat.le_trans le (Nat.le_trans (sum _ _ _) (Nat.add_le_add_left one _))

/-- A sum over the slots that grows by one at most, in one slot alone. -/
theorem sumSlots_le_succ {f k : SlotId → Nat} {a : SlotId}
    (h : ∀ n, f n ≤ k n + if n = a then 1 else 0) : sumSlots f ≤ sumSlots k + 1 := by
  have h0 := h 0
  have h1 := h 1
  have h2 := h 2
  have h3 := h 3
  unfold sumSlots
  fin_cases a <;> simp at h0 h1 h2 h3 <;> omega

/-- An allocation of an available entry keeps the law of the accounts. -/
theorem Pooled.allocate {g : Settings} {b : Bridge} {a : SlotId} (ha : b.available g a = true)
    (i : BridgeTag) (r : EntryRecord) (hb : Pooled g b) : Pooled g (b.allocate i a r) := by
  have le := fun n => b.inUseCount_allocate_le i a r n
  have mono : ∀ n, n ≠ a → (b.allocate i a r).inUseCount n ≤ b.inUseCount n := fun n hn => by
    have := le n
    rwa [if_neg hn] at this
  have own := le a
  rw [if_pos rfl] at own
  unfold Pooled at hb ⊢
  unfold Bridge.available at ha
  rw [Bool.or_eq_true, decide_eq_true_iff, decide_eq_true_iff] at ha
  rcases ha with hq | hp
  · refine Nat.le_trans (sumSlots_le fun n => ?_) hb
    by_cases e : n = a
    · subst e
      have : (b.allocate i n r).inUseCount n - g.quotas n = 0 := by
        have : g.quotas n = (g.policy n).quota := rfl
        omega
      omega
    · exact Nat.sub_le_sub_right (mono n e) _
  · refine Nat.le_trans (sumSlots_le_succ (a := a) fun n => ?_) hp
    show _ - g.quotas n ≤ b.inUseCount n - g.quotas n + _
    have := le n
    omega

theorem Bridge.offeredEntry_eq_some {b : Bridge} {g : Settings} {a : SlotId} {i : BridgeTag}
    (h : b.offeredEntry g a = some i) : b.available g a = true ∧ b.lowestFree = some i := by
  unfold Bridge.offeredEntry at h
  split at h
  · rename_i k; exact ⟨k, h⟩
  · cases h

/-- The entry on offer is taken: no law of the bridge is touched. -/
theorem Unmoved.allocate (g : Settings) {b : Bridge} {a : SlotId} {i : BridgeTag}
    (h : b.offeredEntry g a = some i) (r : EntryRecord) : Unmoved g b (b.allocate i a r) :=
  .of_slots (fun _ => rfl) (ha := Pooled.allocate (Bridge.offeredEntry_eq_some h).1 i r)

/-! ### The host's side (spec/01, 1.3) -/

theorem Unmoved.acceptHost (g : Settings) (b : Bridge) (t : Transaction) :
    Unmoved g b (b.acceptHost g t) := by
  unfold Bridge.acceptHost
  split
  · rename_i h
    exact .of_slots (fun _ => rfl) (hu := fun _ => length_snoc_le _ h)
  · exact .refl g b

theorem Unmoved.noteStall (g : Settings) (b : Bridge) (k : Settings) : Unmoved g b (b.noteStall k) := by
  unfold Bridge.noteStall
  split
  · exact .of_slots fun _ => rfl
  · exact .of_slots fun _ => rfl
  · exact .refl g b
  · exact .refl g b

theorem Unmoved.noteWrite (g : Settings) (b : Bridge) (i : BridgeTag) (n : SlotId) (body : ReqBody) :
    Unmoved g b (b.noteWrite i n body) := by
  cases body with
  | cfgWrite => exact .of_slots fun _ => rfl
  | _ => exact .refl g b

theorem Unmoved.occupyDirect (g : Settings) (b : Bridge) (r : Request) (reply : ReplyTo)
    (answer : StandIn) (counted : Option SlotId) :
    Unmoved g b (b.occupyDirect r reply answer counted) := .of_slots fun _ => rfl

theorem Unmoved.countUnrouted (g : Settings) (b : Bridge) : Unmoved g b b.countUnrouted :=
  .of_slots (fun _ => rfl) (hr := fun _ => satAdd_countTop_le _ _)

theorem Unmoved.forwardHostEntry {g : Settings} {b : Bridge} {n : SlotId} {i : BridgeTag}
    (hr : b.egressHasRoom n = true) (hi : b.offeredEntry g n = some i) (r : Request)
    (answer : Option FenceAnswer) (asked : Asked) :
    Unmoved g b (b.forwardHostEntry g r n answer i asked) := by
  have h : Unmoved g b (b.popUpstream.allocate i n (b.newRecord g (.upstream (Request.requester r))
      (.slot n) asked (some (g.entryAnswer n answer)))) :=
    (Unmoved.popUpstream g b).trans (.allocate g (b := b.popUpstream) hi _)
  exact (h.trans (.pushEgress g (b := b.popUpstream.allocate i n _) hr _ _)).trans (.noteWrite g _ i n r.body)

theorem Unmoved.headForward (g : Settings) (b : Bridge) : Unmoved g b (b.headForward g) := by
  unfold Bridge.headForward
  split
  · split
    · unfold Bridge.forwardHost
      split
      · rename_i hr
        split
        · exact (Unmoved.popUpstream g b).trans (.pushEgress g (b := b.popUpstream) hr _ _)
        · split
          · rename_i hi _
            exact .forwardHostEntry hr hi _ _ _
          · exact .noteStall g b g
      · exact .noteStall g b g
    · exact .refl g b
  · exact .refl g b

theorem Unmoved.handHostHead (g : Settings) (b : Bridge) (r : Request) (answer : StandIn)
    (counted : Option SlotId) : Unmoved g b (b.handHostHead g r answer counted) := by
  unfold Bridge.handHostHead
  split
  · exact .noteStall g b g
  · exact (Unmoved.popUpstream g b).trans (.occupyDirect g _ _ _ _ _)

theorem Keeps.captureAway (g : Settings) (b : Bridge) (n : SlotId) (t : CfgTarget) (be : BitVec 4)
    (payload : List Byte) : Keeps g b (b.captureAway g n t be payload).1 := by
  unfold Bridge.captureAway
  split
  · exact .offerWrite g b n _ _ _ _ _
  · exact .refl g b

theorem Keeps.headNotAdmitted (g : Settings) (b : Bridge) : Keeps g b (b.headNotAdmitted g) := by
  unfold Bridge.headNotAdmitted
  split
  · split
    · unfold Bridge.answerAway
      split
      · exact (Unmoved.handHostHead g b _ _ _).keeps
      · exact (Unmoved.handHostHead g b _ _ _).keeps
      · split
        · exact (Unmoved.noteStall g b g).keeps
        · exact (Keeps.captureAway g b _ _ _ _).trans_unmoved (.handHostHead g _ _ _ _)
      · exact ((Unmoved.popUpstream g b).trans (.countDiscarded g _ _ 1)).keeps
      · exact .refl g b
      · exact .refl g b
    · exact .refl g b
  · exact .refl g b

theorem Unmoved.turnAwayHost (g : Settings) (b : Bridge) (r : Request) :
    Unmoved g b (b.turnAwayHost g r) := by
  unfold Bridge.turnAwayHost
  split
  · exact (Unmoved.popUpstream g b).trans (.countUnrouted g _)
  · exact .handHostHead g b _ _ _

theorem Unmoved.turnAwayUnrouted (g : Settings) (b : Bridge) : Unmoved g b (b.turnAwayUnrouted g) := by
  unfold Bridge.turnAwayUnrouted
  split
  · split
    · exact .turnAwayHost g b _
    · exact .refl g b
  · exact .refl g b

theorem Unmoved.handCardHead (g : Settings) (b : Bridge) (n : SlotId) (r : Request) (answer : StandIn)
    (counted : SlotId) : Unmoved g b (b.handCardHead n r answer counted) := by
  unfold Bridge.handCardHead
  split
  · exact .refl g b
  · exact (Unmoved.popCard g b n).trans (.occupyDirect g _ _ _ _ _)

theorem Unmoved.turnAwayCard (g : Settings) (b : Bridge) (n : SlotId) (r : Request) :
    Unmoved g b (b.turnAwayCard n r) := by
  unfold Bridge.turnAwayCard
  split
  · exact (Unmoved.popCard g b n).trans (.countDiscarded g _ n 1)
  · exact .handCardHead g b n _ _ _

theorem Unmoved.malformed (g : Settings) (b : Bridge) (side : Side) :
    Unmoved g b (b.malformed g side) := by
  cases side with
  | upstream =>
    unfold Bridge.malformed
    simp only
    split
    · split
      · exact .refl g b
      · exact .turnAwayHost g b _
    · exact .refl g b
  | slot n =>
    unfold Bridge.malformed
    simp only
    split
    · split
      · exact .refl g b
      · exact .turnAwayCard g b n _
    · exact .refl g b

theorem Unmoved.answerHead (g : Settings) {b : Bridge} (h : b.bridgeQueueHasRoom = true)
    (c : Completion) : Unmoved g b (b.answerHead c) :=
  (Unmoved.popUpstream g b).trans (.pushBridgeQueue g (b := b.popUpstream) h _)

theorem Unmoved.mgmtCfgRead (g : Settings) (b : Bridge) : Unmoved g b (b.mgmtCfgRead g) := by
  unfold Bridge.mgmtCfgRead
  split
  · split
    · split
      · rename_i h
        exact .answerHead g h _
      · exact .refl g b
    · exact .refl g b
  · exact .refl g b

/-! ### A card's requests (spec/01, 1.4) -/

theorem Unmoved.acceptCard (g : Settings) (b : Bridge) (n : SlotId) (t : Transaction) :
    Unmoved g b (b.acceptCard g n t) := by
  unfold Bridge.acceptCard
  split
  · rename_i h
    exact Unmoved.modSlot (Calm.modSlot_of_room
      (fun hr => ⟨hr.1, length_snoc_le _ h, hr.2.2⟩) id rfl) rfl
  · exact .refl g b

theorem Unmoved.forwardCard (g : Settings) (b : Bridge) (n : SlotId) (r : Request) (dest : CardDest) :
    Unmoved g b (b.forwardCard g n r dest) := by
  have pop := Unmoved.popCard g b n
  cases dest with
  | upstream =>
    unfold Bridge.forwardCard Bridge.forwardUp
    simp only
    split
    · rename_i hr
      rw [← b.upQueueHasRoom_popCard n n] at hr
      split
      · exact pop.trans (.pushUpQueue g hr _)
      · split
        · rename_i hi _
          exact (pop.trans (.allocate g (b := b.popCard n) hi _)).trans
            (.pushUpQueue g (b := (b.popCard n).allocate _ n _) hr _)
        · exact .refl g b
    · exact .refl g b
  | peer m answer =>
    unfold Bridge.forwardCard
    simp only
    split
    · unfold Bridge.forwardPeer
      split
      · rename_i hr
        rw [← b.egressHasRoom_popCard n m] at hr
        split
        · exact pop.trans (.pushEgress g hr _ _)
        · split
          · rename_i hi _
            exact (pop.trans (.allocate g (b := b.popCard n) hi _)).trans
              (.pushEgress g (b := (b.popCard n).allocate _ n _) hr _ _)
          · exact .refl g b
      · exact .refl g b
    · unfold Bridge.answerPeerAway
      split
      · exact pop.trans (.countDiscarded g _ m 1)
      · exact .handCardHead g b n _ _ _

theorem Unmoved.cardForward (g : Settings) (b : Bridge) (n : SlotId) :
    Unmoved g b (b.cardForward g n) := by
  unfold Bridge.cardForward
  split
  · split
    · exact .forwardCard g b n _ _
    · exact .refl g b
  · exact .refl g b

theorem Keeps.violate (g : Settings) (b : Bridge) (n : SlotId) : Keeps g b (b.violate g n) := by
  have h : Unmoved g b ((b.modFault n fun f =>
      { f with violations := satAdd countTop f.violations 1 }).raise g (.slot n .violation)) := by
    refine (Unmoved.modFault ?_).trans (.raise g _ g _)
    rintro ⟨h1, h2, h3, -, h5⟩
    exact ⟨h1, h2, h3, satAdd_countTop_le _ _, h5⟩
  unfold Bridge.violate
  simp only
  split
  · exact h.trans_keeps (.takeTrigger g _ n _)
  · exact h.keeps

theorem Keeps.cardRefused (g : Settings) (b : Bridge) (n : SlotId) : Keeps g b (b.cardRefused g n) := by
  unfold Bridge.cardRefused
  split
  · split
    · unfold Bridge.refuseCard
      split
      · exact (Unmoved.popCard g b n).trans_keeps (.violate g _ n)
      · split
        · exact .refl g b
        · exact (Unmoved.handCardHead g b n _ _ _).trans_keeps (.violate g _ n)
    · exact .refl g b
  · exact .refl g b

theorem faultLaw_countMessage {f : FaultRecord} (h : FaultLaw f) (s : Severity) :
    FaultLaw (f.countMessage s) := by
  obtain ⟨h1, h2, h3, h4, h5, h6, h7, h8, h9⟩ := h
  cases s with
  | nonfatal => exact ⟨h1, h2, h3, h4, h5, h6, satAdd_countTop_le _ _, h8, h9⟩
  | correctable => exact ⟨h1, h2, h3, h4, h5, h6, h7, satAdd_countTop_le _ _, h9⟩
  | fatal => exact ⟨h1, h2, h3, h4, h5, h6, h7, h8, h9⟩

theorem Keeps.messageLeaves (g : Settings) (b : Bridge) (n : SlotId) (forwarded : Bool) (m : Message) :
    Keeps g b (b.messageLeaves g n forwarded m) := by
  cases m with
  | error severity =>
    have h : Unmoved g b ((b.modFault n fun f => f.countMessage severity).raise g
        (.slot n .cardErrorMsg)) :=
      (Unmoved.modFault fun k => faultLaw_countMessage k severity).trans (.raise g _ g _)
    unfold Bridge.messageLeaves
    simp only
    split
    · exact h.trans_keeps (.takeTrigger g _ n _)
    · exact h.keeps
  | sealed x =>
    unfold Bridge.messageLeaves
    simp only
    split
    · exact .refl g b
    · exact (Unmoved.countDiscarded g b n 1).keeps

theorem Keeps.cardMessage (g : Settings) (b : Bridge) (n : SlotId) : Keeps g b (b.cardMessage g n) := by
  unfold Bridge.cardMessage
  split
  · split
    · unfold Bridge.handleMessage
      split
      · split
        · rename_i hr
          rw [← b.upQueueHasRoom_popCard n n] at hr
          exact ((Unmoved.popCard g b n).trans (.pushUpQueue g hr _)).trans_keeps
            (.messageLeaves g _ n _ _)
        · exact .refl g b
      · exact (Unmoved.popCard g b n).trans_keeps (.messageLeaves g _ n _ _)
    · exact .refl g b
  · exact .refl g b

theorem Unmoved.cardNotAdmitted (g : Settings) (b : Bridge) (n : SlotId) :
    Unmoved g b (b.cardNotAdmitted n) := by
  unfold Bridge.cardNotAdmitted
  split
  · split
    · exact .turnAwayCard g b n _
    · exact .refl g b
  · exact .refl g b

/-! ### Completions (spec/02, R33 to R41) -/

/-- Between `b` and `c` neither the ORT nor a queue toward a card or from a card to the host changes. -/
structure SameRooms (b c : Bridge) : Prop where
  ort : c.ort = b.ort
  egress : ∀ n, (c.slot n).egress = (b.slot n).egress
  upQueue : ∀ n, (c.slot n).upQueue = (b.slot n).upQueue

theorem SameRooms.refl (b : Bridge) : SameRooms b b := ⟨rfl, fun _ => rfl, fun _ => rfl⟩

theorem SameRooms.trans {b c d : Bridge} (h : SameRooms b c) (k : SameRooms c d) : SameRooms b d :=
  ⟨k.ort.trans h.ort, fun n => (k.egress n).trans (h.egress n),
    fun n => (k.upQueue n).trans (h.upQueue n)⟩

theorem SameRooms.modSlot {b : Bridge} {n : SlotId} {f : Slot → Slot}
    (he : (f (b.slot n)).egress = (b.slot n).egress)
    (hu : (f (b.slot n)).upQueue = (b.slot n).upQueue) : SameRooms b (b.modSlot n f) where
  ort := rfl
  egress := fun m => by
    rw [Bridge.slot_modSlot]
    split
    · rename_i e; rw [he, e]
    · rfl
  upQueue := fun m => by
    rw [Bridge.slot_modSlot]
    split
    · rename_i e; rw [hu, e]
    · rfl

theorem SameRooms.of_ort {b c : Bridge} (h : OrtOnly b c) (ho : c.ort = b.ort) : SameRooms b c where
  ort := ho
  egress := fun n => by obtain ⟨x, hx⟩ := h.slot n; rw [hx]
  upQueue := fun n => by obtain ⟨x, hx⟩ := h.slot n; rw [hx]

theorem SameRooms.writeShadow (b : Bridge) (k : RecordId) (u : BitVec 4) (v : Word) :
    SameRooms b (b.writeShadow k u v) := ⟨rfl, fun _ => rfl, fun _ => rfl⟩

theorem SameRooms.readShadow (b : Bridge) (g : Settings) (n : SlotId) (p : Nat) (x : ShadowKey)
    (e : ReadEvent) : SameRooms b (b.readShadow g n p x e).1 := by
  unfold Bridge.readShadow
  simp only
  split
  · exact .refl b
  · exact (SameRooms.writeShadow b x.number _ _).trans
      (.of_ort (OrtOnly.noteCorrection _ g) (Bridge.noteCorrection_ort _ g))
  · exact ((SameRooms.modSlot rfl rfl).trans (.modSlot rfl rfl)).trans
      (.of_ort (.noteUncorrectable _ g _ n e) (Bridge.raise_ort _ _ _))

theorem SameRooms.newShadowRecord (b : Bridge) (n : SlotId) (function : BitVec 3) (offset : BitVec 12)
    (be : BitVec 4) (payload : Word) :
    SameRooms b (b.newShadowRecord n function offset be payload) := by
  unfold Bridge.newShadowRecord
  split
  · rename_i k _
    exact (SameRooms.writeShadow b k be (mergeBytes be 0 payload)).trans
      (SameRooms.modSlot (n := n)
        (f := fun s =>
          { s with shadow := s.shadow ++ [{ number := k, function := function, offset := offset }] })
        rfl rfl)
  · exact .refl b

theorem SameRooms.moveIfTaken (b : Bridge) (n : SlotId) (p : Nat) (x : ShadowKey) :
    SameRooms b (b.moveIfTaken n p x) := by
  unfold Bridge.moveIfTaken
  split
  · split
    · exact (SameRooms.modSlot rfl rfl).trans (.modSlot rfl rfl)
    · exact .refl b
  · exact .refl b

/-- An offered write moves no transaction. -/
theorem SameRooms.offerWrite (b : Bridge) (g : Settings) (n : SlotId) (bus : BitVec 8)
    (function : BitVec 3) (offset : BitVec 12) (be : BitVec 4) (payload : Word) :
    SameRooms b (b.offerWrite g n bus function offset be payload).1 := by
  unfold Bridge.offerWrite
  split
  · exact .refl b
  split
  · exact .refl b
  split
  · exact .refl b
  split
  · rename_i p _
    split
    · rename_i x _
      have h := SameRooms.readShadow b g n p x .merge
      unfold Bridge.mergeShadow
      split
      · rename_i c u v e
        rw [e] at h
        exact (h.trans (.writeShadow c _ _ _)).trans (.moveIfTaken _ n p x)
      · rename_i c e
        rw [e] at h
        exact h.trans (.newShadowRecord c n _ _ be payload)
    · exact .refl b
  · split
    · exact .newShadowRecord b n _ _ be payload
    · exact SameRooms.modSlot (n := n) (f := fun s => { s with incomplete := true }) rfl rfl

theorem SameRooms.captureAnswered (b : Bridge) (g : Settings) (i : BridgeTag) (r : EntryRecord)
    (c : Completion) : SameRooms b (b.captureAnswered g i r c) := by
  unfold Bridge.captureAnswered
  split
  · split
    · exact .offerWrite b g _ _ _ _ _ _
    · exact .refl b
  · exact .refl b

theorem Keeps.captureAnswered (g : Settings) (b : Bridge) (i : BridgeTag) (r : EntryRecord)
    (c : Completion) : Keeps g b (b.captureAnswered g i r c) := by
  unfold Bridge.captureAnswered
  split
  · split
    · exact .offerWrite g b _ _ _ _ _ _
    · exact .refl g b
  · exact .refl g b

/-- The destination has room where the queues are the same. -/
theorem Bridge.destHasRoom_congr {b c : Bridge} (he : ∀ n, (c.slot n).egress = (b.slot n).egress)
    (hu : ∀ n, (c.slot n).upQueue = (b.slot n).upQueue) (d : ForwardDest) :
    c.destHasRoom d = b.destHasRoom d := by
  cases d with
  | upQueue n => simp [Bridge.destHasRoom, Bridge.upQueueHasRoom, hu n]
  | egress a => simp [Bridge.destHasRoom, Bridge.egressHasRoom, he a]

theorem OrtOnly.destHasRoom {b c : Bridge} (h : OrtOnly b c) (d : ForwardDest) :
    c.destHasRoom d = b.destHasRoom d :=
  Bridge.destHasRoom_congr (fun n => by obtain ⟨x, hx⟩ := h.slot n; rw [hx])
    (fun n => by obtain ⟨x, hx⟩ := h.slot n; rw [hx]) d

theorem Unmoved.pushDest (g : Settings) {b : Bridge} {d : ForwardDest} (h : b.destHasRoom d = true)
    (t : Transaction) : Unmoved g b (b.pushDest t d) := by
  cases d with
  | upQueue n => exact .pushUpQueue g h t
  | egress a => exact .pushEgress g h _ t

theorem Unmoved.countUnexpected (g : Settings) (b : Bridge) (side : Side) :
    Unmoved g b (b.countUnexpected side) := by
  cases side with
  | upstream => exact .of_slots (fun _ => rfl) (hx := fun _ => satAdd_countTop_le _ _)
  | slot n =>
    refine Unmoved.modFault (n := n)
      (f := fun r => { r with unexpected := satAdd countTop r.unexpected 1 }) ?_
    rintro ⟨h1, h2, h3, h4, -, h6⟩
    exact ⟨h1, h2, h3, h4, satAdd_countTop_le _ _, h6⟩

theorem Unmoved.takeLate (g : Settings) (b : Bridge) (i : BridgeTag) (r : EntryRecord) (side : Side)
    (c : Completion) : Unmoved g b (b.takeLate i r side c) := by
  have counted : Unmoved g b (match (b.status i).account with
      | some a => b.modFault (lateSlot side a) fun f => { f with late := satAdd countTop f.late 1 }
      | none => b) := by
    split
    · refine Unmoved.modFault ?_
      rintro ⟨h1, h2, h3, h4, h5, -, h7⟩
      exact ⟨h1, h2, h3, h4, h5, satAdd_countTop_le _ _, h7⟩
    · exact .refl g b
  unfold Bridge.takeLate
  simp only
  split
  · exact counted.trans (.releaseEntry g _ i r)
  · exact counted

theorem Keeps.takeMisfit (g : Settings) (b : Bridge) (side : Side) : Keeps g b (b.takeMisfit g side) := by
  cases side with
  | upstream => exact (Unmoved.countUnexpected g b .upstream).keeps
  | slot n => exact .takeTrigger g b n _

theorem OrtOnly.advanceEntry (b : Bridge) (i : BridgeTag) (r : EntryRecord) (c : Completion) :
    OrtOnly b (b.advanceEntry i r c) := by
  unfold Bridge.advanceEntry
  split
  · exact .freeEntry b i
  · exact .putRecord b i _

theorem Unmoved.advanceEntry (g : Settings) (b : Bridge) (i : BridgeTag) (r : EntryRecord)
    (c : Completion) : Unmoved g b (b.advanceEntry i r c) := by
  unfold Bridge.advanceEntry
  split
  · exact .freeEntry g b i
  · exact .putRecord g b i _

/-- A fitting completion keeps every law when its destination has room. -/
theorem Keeps.takeFit {g : Settings} {b : Bridge} {i : BridgeTag} {r : EntryRecord} {c : Completion}
    (h : ∀ d, r.forwardDest = some d → b.destHasRoom d = true) : Keeps g b (b.takeFit g i r c) := by
  unfold Bridge.takeFit
  split
  · split
    · exact (Unmoved.freeEntry g b i).trans_keeps (.scriptAnswer g _ i _ _)
    · exact (Unmoved.freeEntry g b i).trans_keeps (.replayAnswer g _ _ i _)
    · exact (Unmoved.freeEntry g b i).keeps
  · have capture := SameRooms.captureAnswered b g i r c
    have ends := (Keeps.captureAnswered g b i r c).trans_unmoved (.advanceEntry g _ i r c)
    simp only
    split
    · rename_i d hd
      refine ends.trans_unmoved (.pushDest g ?_ _)
      rw [(OrtOnly.advanceEntry _ i r c).destHasRoom,
        Bridge.destHasRoom_congr capture.egress capture.upQueue]
      exact h d hd
    · exact ends
  · have ends := (Unmoved.advanceEntry g b i r c).keeps
    simp only
    split
    · rename_i d hd
      refine ends.trans_unmoved (.pushDest g ?_ _)
      rw [(OrtOnly.advanceEntry b i r c).destHasRoom]
      exact h d hd
    · exact ends

/-- A read that gives a record finds it as a read without effect does. -/
theorem Bridge.peekEntry_of_read {b c : Bridge} {g : Settings} {i : BridgeTag} {e : ReadEvent}
    {r : EntryRecord} (h : b.readEntry g i e = (c, some r)) : b.peekEntry i = some r := by
  obtain ⟨a, ha⟩ := Bridge.readEntry_some h
  refine (b.peekEntry_eq_some i r).2 ⟨⟨a, ha⟩, fun k => ?_⟩
  rw [Bridge.readEntry_uncorrectable ha k] at h
  cases h

/-- The destination of a completion that would be forwarded, as the match finds it. -/
theorem Bridge.matchDest_of_fit {b : Bridge} {g : Settings} {side : Side} {c : Completion}
    {i : BridgeTag} {r : EntryRecord} (ht : tagFor g c = some i) (hp : b.peekEntry i = some r)
    (hs : r.target = side) (ho : r.isOpen = true) (hf : r.asked.fits c = true) :
    b.matchDest g side c = r.forwardDest := by
  simp [Bridge.matchDest, ht, hp, hs, ho, hf]

/-- A completion that is not blocked keeps every law as it is taken. -/
theorem Keeps.takeMatch {g : Settings} {b : Bridge} {side : Side} {c : Completion}
    (h : b.matchBlocked g side c = none) : Keeps g b (b.takeMatch g side c) := by
  unfold Bridge.takeMatch
  split
  · exact (Unmoved.countUnexpected g b side).keeps
  · rename_i i ht
    have read := Unmoved.readEntry g b i .matching
    have frame := OrtOnly.readEntry b g i .matching
    split
    · rename_i b' e
      rw [e] at read
      exact (read.trans (.countUnexpected g b' side)).keeps
    · rename_i b' r e
      rw [e] at read frame
      split
      · rename_i hs
        split
        · rename_i ho
          split
          · rename_i hf
            refine read.trans_keeps (.takeFit fun d hd => ?_)
            have dest := Bridge.matchDest_of_fit ht (Bridge.peekEntry_of_read e) hs ho hf
            rw [hd] at dest
            rw [frame.destHasRoom]
            unfold Bridge.matchBlocked at h
            rw [dest] at h
            simpa using h
          · exact read.trans_keeps (.takeMisfit g b' side)
        · exact (read.trans (.takeLate g b' i r side c)).keeps
      · exact (read.trans (.countUnexpected g b' side)).keeps

theorem Bridge.matchBlocked_popCard (b : Bridge) (g : Settings) (n : SlotId) (side : Side)
    (c : Completion) : (b.popCard n).matchBlocked g side c = b.matchBlocked g side c := by
  have dest : (b.popCard n).matchDest g side c = b.matchDest g side c := rfl
  unfold Bridge.matchBlocked
  rw [dest]
  split
  · rw [Bridge.destHasRoom_congr (fun m => (b.slot_popCard n m).1) fun m => (b.slot_popCard n m).2]
  · rfl

theorem Keeps.matchHost (g : Settings) (b : Bridge) : Keeps g b (b.matchHost g) := by
  unfold Bridge.matchHost
  split
  · rename_i c _
    split
    · exact (Unmoved.noteStall g b g).keeps
    · rename_i h
      have h' : b.popUpstream.matchBlocked g .upstream c = none := Option.not_isSome_iff_eq_none.1 h
      exact (Unmoved.popUpstream g b).trans_keeps (.takeMatch h')
  · exact .refl g b

theorem Keeps.matchCard (g : Settings) (b : Bridge) (n : SlotId) : Keeps g b (b.matchCard g n) := by
  unfold Bridge.matchCard
  split
  · rename_i c _
    split
    · exact .refl g b
    · rename_i h
      refine (Unmoved.popCard g b n).trans_keeps (.takeMatch ?_)
      rw [Bridge.matchBlocked_popCard]
      exact Option.not_isSome_iff_eq_none.1 h
  · exact .refl g b

end Sys2Proof.Machine
end

section
/-! PROOFS. What leaves the bridge, and the timers of the monitor, keep every law of the bridge. -/

namespace Sys2Proof.Machine

open Sys2Proof Sys2Proof.Safety

/-! ### What leaves the bridge (spec/01, R23; spec/08, R165 to R168) -/

theorem Unmoved.sendEgress (g : Settings) (b : Bridge) (n : SlotId) :
    Unmoved g b (b.sendEgress g n) := by
  unfold Bridge.sendEgress
  split
  · exact Unmoved.modSlot (Calm.modSlot ⟨length_tail_le _, Nat.le_refl _, Nat.le_refl _, id⟩ rfl) rfl
  · exact .refl g b

theorem Unmoved.grantSlot (g : Settings) (b : Bridge) (n : SlotId) :
    Unmoved g b (b.grantSlot g n) :=
  (Unmoved.modSlot (n := n) (f := fun s => { s with upQueue := s.upQueue.tail })
    (Calm.modSlot ⟨Nat.le_refl _, Nat.le_refl _, length_tail_le _, id⟩ rfl) rfl).trans
    (.of_slots fun _ => rfl)

theorem Unmoved.arbiterGrant (g : Settings) (b : Bridge) : Unmoved g b (b.arbiterGrant g) := by
  unfold Bridge.arbiterGrant
  split
  · rename_i t rest h
    refine .of_slots (fun _ => rfl) (hq := fun hl => ?_)
    rw [h, List.length_cons] at hl
    exact Nat.le_of_succ_le hl
  · unfold Bridge.grantAmongSlots
    split
    · exact (Unmoved.grantSlot g b b.pointer).trans (.of_slots fun _ => rfl)
    · split
      · exact (Unmoved.grantSlot g b _).trans (.of_slots fun _ => rfl)
      · exact .refl g b

/-! ### The stand-in generator (spec/03, R63 to R73) -/

theorem Unmoved.countPiece (g : Settings) (b : Bridge) (n : SlotId) : Unmoved g b (b.countPiece n) := by
  refine Unmoved.modFault (n := n)
    (f := fun f => { f with standInPieces := satAdd countTop f.standInPieces 1 }) ?_
  rintro ⟨h1, -, h3⟩
  exact ⟨h1, satAdd_countTop_le _ _, h3⟩

theorem Unmoved.itemLeft (g : Settings) (b : Bridge) (i : BridgeTag) : Unmoved g b (b.itemLeft g i) :=
  .of_ort (.itemLeft b g i) (.itemLeft b g i)

theorem Unmoved.finishItem (g : Settings) (b : Bridge) (i : BridgeTag) :
    Unmoved g b (b.finishItem g i) :=
  Unmoved.trans (c := { b with workList := b.workList.filter fun y => decide (y.entry ≠ i) })
    (.of_slots fun _ => rfl) (.itemLeft g _ i)

theorem Unmoved.updateItem (g : Settings) (b : Bridge) (x : EntryItem) :
    Unmoved g b (b.updateItem x) := .of_slots fun _ => rfl

/-- The destination of an item has room for one more completion. -/
def Bridge.itemHasRoom (b : Bridge) : ItemDest → Bool
  | .host _ _ => b.bridgeQueueHasRoom
  | .card a => b.egressHasRoom a

/-- An eligible item's destination has room (spec/03, R64). -/
theorem Bridge.itemHasRoom_of_eligible {b : Bridge} {x : EntryItem} (h : b.eligible x = true) :
    b.itemHasRoom x.dest = true := by
  unfold Bridge.eligible at h
  cases hd : x.dest with
  | host source drain => rw [hd] at h; exact (Bool.and_eq_true_iff.1 h).2
  | card a => rw [hd] at h; exact (Bool.and_eq_true_iff.1 h).2

theorem OrtOnly.itemHasRoom {b c : Bridge} (h : OrtOnly b c) (d : ItemDest) :
    c.itemHasRoom d = b.itemHasRoom d := by
  cases d with
  | host => simp [Bridge.itemHasRoom, Bridge.bridgeQueueHasRoom, h.bridgeQueue]
  | card a =>
    obtain ⟨x, hx⟩ := h.slot a
    simp [Bridge.itemHasRoom, Bridge.egressHasRoom, hx]

theorem Unmoved.handTo (g : Settings) {b : Bridge} {d : ItemDest} (h : b.itemHasRoom d = true)
    (c : Completion) : Unmoved g b (b.handTo c d) := by
  cases d with
  | host => exact .pushBridgeQueue g h _
  | card a => exact .pushEgress g h _ _

theorem Unmoved.handPiece (g : Settings) {b : Bridge} {x : EntryItem}
    (h : b.itemHasRoom x.dest = true) (k : Begun) : Unmoved g b (b.handPiece g x k) := by
  have piece := (Unmoved.handTo g h
    (pieceCompletion k.requester g.part.pieceSize k.next k.stop)).trans (.countPiece g _ k.counted)
  unfold Bridge.handPiece
  simp only
  split
  · exact piece.trans (.finishItem g _ _)
  · exact piece.trans (.updateItem g _ _)

theorem Unmoved.handSingle (g : Settings) {b : Bridge} {x : EntryItem}
    (h : b.itemHasRoom x.dest = true) (n : SlotId) (c : Completion) :
    Unmoved g b (b.handSingle g x n c) :=
  ((Unmoved.handTo g h c).trans (.countPiece g _ n)).trans (.finishItem g _ _)

theorem Unmoved.beginItem (g : Settings) {b : Bridge} {x : EntryItem}
    (h : b.itemHasRoom x.dest = true) (r : EntryRecord) (q : Requester) (account : SlotId) :
    Unmoved g b (b.beginItem g x r q account) := by
  unfold Bridge.beginItem
  split
  · exact .handPiece g h _
  · exact .handSingle g h _ _
  · exact .handSingle g h _ _

theorem Unmoved.handOn (g : Settings) {b : Bridge} {x : EntryItem}
    (h : b.itemHasRoom x.dest = true) : Unmoved g b (b.handOn g x) := by
  have read := Unmoved.readEntry g b x.entry .standIn
  have frame := OrtOnly.readEntry b g x.entry .standIn
  unfold Bridge.handOn
  split
  · exact .handPiece g h _
  · split
    · rename_i c r account e _
      rw [e] at read frame
      split
      · exact read.trans (.beginItem g (by rw [frame.itemHasRoom]; exact h) _ _ _)
      · exact read
    · rename_i e _
      rw [e] at read
      exact read
    · rename_i e
      rw [e] at read
      exact read

theorem Unmoved.standInHandOn (g : Settings) (b : Bridge) : Unmoved g b (b.standInHandOn g) := by
  unfold Bridge.standInHandOn
  split
  · rename_i x h
    exact .handOn g (Bridge.itemHasRoom_of_eligible (List.find?_some h))
  · exact .refl g b

theorem Unmoved.freeDirect (g : Settings) (b : Bridge) : Unmoved g b b.freeDirect :=
  .of_slots fun _ => rfl

theorem Unmoved.handDirect (g : Settings) {b : Bridge} {d : DirectItem} (h : b.directReady d = true)
    (c : Completion) : Unmoved g b (b.handDirect d c) := by
  have placed : Unmoved g b (match d.reply with
      | .host => b.pushBridgeQueue (.completion c)
      | .card a => b.pushEgress a .standIn (.completion c)) := by
    unfold Bridge.directReady at h
    split <;> rename_i e <;> rw [e] at h
    · exact .pushBridgeQueue g h _
    · exact .pushEgress g (Bool.and_eq_true_iff.1 h).2 _ _
  unfold Bridge.handDirect
  simp only
  split
  · exact placed.trans (.countPiece g _ _)
  · exact placed

theorem Unmoved.directHandOn (g : Settings) (b : Bridge) : Unmoved g b (b.directHandOn g) := by
  unfold Bridge.directHandOn
  split
  · split
    · rename_i h
      unfold Bridge.directNext
      simp only
      split
      · split
        · exact (Unmoved.handDirect g h _).trans (.freeDirect g _)
        · exact (Unmoved.handDirect g h _).trans (.of_slots fun _ => rfl)
      · exact (Unmoved.handDirect g h _).trans (.freeDirect g _)
      · exact (Unmoved.handDirect g h _).trans (.freeDirect g _)
    · exact .refl g b
  · exact .refl g b

theorem Unmoved.directTimeout (g : Settings) (b : Bridge) : Unmoved g b (b.directTimeout g) := by
  unfold Bridge.directTimeout
  split
  · exact .freeDirect g b
  · exact .refl g b

theorem Unmoved.formAlert (g : Settings) (b : Bridge) : Unmoved g b (b.formAlert g) := by
  unfold Bridge.formAlert
  split
  · rename_i p rest _
    split
    · rename_i h
      split
      · exact .of_slots (fun _ => rfl)
          (hq := fun _ => length_snoc_le _ ((bridgeQueueHasRoom_iff b).1 h))
      · exact .of_slots fun _ => rfl
    · exact .refl g b
  · exact .refl g b

/-! ### The deadline monitor (spec/02, R44; spec/03, R55 to R59) -/

theorem Bridge.ort_listItem (b : Bridge) (i : BridgeTag) (r : EntryRecord) :
    (b.listItem i r).ort = b.ort := by
  unfold Bridge.listItem
  split <;> rfl

theorem AccountsLe.standInEntry (b : Bridge) (g : Settings) (i : BridgeTag) (r : EntryRecord) :
    AccountsLe b (b.standInEntry g i r) := (AccountsLe.putRecord b i _).dropNote i

theorem Unmoved.expireToStandIn (g : Settings) (b : Bridge) (i : BridgeTag) (r : EntryRecord) :
    Unmoved g b (b.expireToStandIn g i r) :=
  .of_ort ((OrtOnly.standInEntry b g i r).trans (.listItem _ i r))
    ((AccountsLe.standInEntry b g i r).trans (.of_ort (Bridge.ort_listItem _ i r)))

theorem Unmoved.countExpiry (g : Settings) (b : Bridge) (n : SlotId) :
    Unmoved g b (b.countExpiry n) := by
  refine Unmoved.modFault (n := n)
    (f := fun f => { f with expiries := satAdd countTop f.expiries 1 }) ?_
  rintro ⟨-, h2⟩
  exact ⟨satAdd_countTop_le _ _, h2⟩

theorem Keeps.suspect (g : Settings) (b : Bridge) (n : SlotId) : Keeps g b (b.suspect g n) := by
  have h : Unmoved g b (b.modSlot n fun s =>
      { s with suspicion := satAdd 15 (b.slot n).suspicion 1, quietRef := b.now }) :=
    Unmoved.modSlot (Calm.modSlot ⟨Nat.le_refl _, Nat.le_refl _, Nat.le_refl _,
      fun hc => ⟨hc.1, Nat.min_le_right _ _⟩⟩ rfl) rfl
  unfold Bridge.suspect
  simp only
  split
  · exact h.trans_keeps (.takeTrigger g _ n _)
  · exact h.keeps

theorem Keeps.tellExpired (g : Settings) (b : Bridge) (n : SlotId) (i : BridgeTag) (p : Purpose) :
    Keeps g b (b.tellExpired g n i p) := by
  cases p with
  | script x => exact .scriptExpired g b i
  | replay x =>
    unfold Bridge.tellExpired
    simp only
    split
    · split
      · exact .replayExpired g b n
      · exact .refl g b
    · exact .refl g b

theorem Keeps.expire (g : Settings) (b : Bridge) (i : BridgeTag) (r : EntryRecord) :
    Keeps g b (b.expire g i r) := by
  have stand := fun n => (Unmoved.expireToStandIn g b i r).trans (.countExpiry g _ n)
  unfold Bridge.expire
  split
  · exact (stand _).trans_keeps (.suspect g _ _)
  · exact (stand _).trans_keeps (.suspect g _ _)
  · exact (stand _).keeps
  · exact ((Unmoved.freeEntry g b i).trans (.countExpiry g _ _)).trans_keeps (.tellExpired g _ _ i _)
  · exact .refl g b
  · exact .refl g b

theorem Keeps.examineDeadline (g : Settings) (b : Bridge) (i : BridgeTag) :
    Keeps g b (b.examineDeadline g i) := by
  have read := Unmoved.readEntry g b i .examine
  unfold Bridge.examineDeadline
  split
  · split
    · rename_i c r e
      rw [e] at read
      split
      · exact read.trans_keeps (.expire g c i r)
      · exact read.keeps
    · rename_i c e
      rw [e] at read
      exact read.keeps
  · exact .refl g b

theorem Unmoved.examineHold (g : Settings) (b : Bridge) (i : BridgeTag) :
    Unmoved g b (b.examineHold g i) := by
  have read := Unmoved.readEntry g b i .examine
  unfold Bridge.examineHold
  split
  · split
    · rename_i c r e
      rw [e] at read
      split
      · exact read.trans (.releaseEntry g c i r)
      · exact read
    · rename_i c e
      rw [e] at read
      exact read
  · exact .refl g b

theorem Unmoved.quietDecrement (g : Settings) (b : Bridge) (n : SlotId) :
    Unmoved g b (b.quietDecrement g n) := by
  unfold Bridge.quietDecrement
  split
  · exact Unmoved.modSlot (Calm.modSlot ⟨Nat.le_refl _, Nat.le_refl _, Nat.le_refl _,
      fun hc => ⟨hc.1, Nat.le_trans (Nat.sub_le _ _) hc.2⟩⟩ rfl) rfl
  · exact .refl g b

theorem Keeps.headStall (g : Settings) (b : Bridge) : Keeps g b (b.headStall g) := by
  unfold Bridge.headStall
  split
  · rename_i n _
    exact Unmoved.trans_keeps (c := { b with stall := some { slot := n, start := b.now } })
      (.of_slots fun _ => rfl) (.takeTrigger g _ n _)
  · exact .refl g b

/-! ### Requests of the engine and of the replays (spec/06, R135; spec/07, R156) -/

theorem Unmoved.sendOwn {g : Settings} {b : Bridge} {n : SlotId} {i : BridgeTag}
    (hi : b.offeredEntry g n = some i) (hr : b.egressHasRoom n = true) (body : ReqBody) (asked : Asked)
    (purpose : Purpose) : Unmoved g b (b.sendOwn g n i body asked purpose) :=
  (Unmoved.allocate g hi _).trans (.pushEgress g (b := b.allocate i n _) hr _ _)

theorem Bridge.engineRequest_run {b : Bridge} {g : Settings} {r : Run} {body : ReqBody}
    (h : b.engineRequest g = some (r, body)) : b.run = some r := by
  unfold Bridge.engineRequest at h
  split at h
  · rename_i r' hr
    split at h
    · obtain ⟨body', _, e⟩ := Option.map_eq_some_iff.1 h
      cases e
      exact hr
    · cases h
  · cases h

theorem Unmoved.scriptSend (g : Settings) (b : Bridge) : Unmoved g b (b.scriptSend g) := by
  unfold Bridge.scriptSend
  split
  · rename_i r body hb
    have run := Bridge.engineRequest_run hb
    split
    · rename_i i asked hi _
      split
      · rename_i hr
        refine (Unmoved.sendOwn hi hr body asked _).trans (Unmoved.setRun (r := r) ?_ ?_)
        · exact run
        · rfl
      · exact .refl g b
    · exact .refl g b
  · exact .refl g b

theorem Keeps.scriptIssueTimeout (g : Settings) (b : Bridge) :
    Keeps g b (b.scriptIssueTimeout g) := by
  unfold Bridge.scriptIssueTimeout
  split
  · rename_i r h
    refine .stepFail (served_of_run ?_) _ _
    unfold Bridge.scriptIssueDue at h
    split at h
    · rename_i hr
      split at h
      · split at h
        · cases h; exact hr
        · cases h
      · cases h
    · cases h
  · exact .refl g b

theorem Unmoved.scriptRetryResume (g : Settings) (b : Bridge) : Unmoved g b b.scriptRetryResume := by
  unfold Bridge.scriptRetryResume
  split
  · rename_i r h
    refine Unmoved.setRun (r := r) ?_ ?_
    · unfold Bridge.scriptRetryDue at h
      split at h
      · rename_i hr
        split at h
        · split at h
          · cases h; exact hr
          · cases h
        · cases h
      · cases h
    · rfl
  · exact .refl g b

theorem Keeps.scriptWaitEnd (g : Settings) (b : Bridge) : Keeps g b (b.scriptWaitEnd g) := by
  unfold Bridge.scriptWaitEnd
  split
  · rename_i r h
    refine .stepPass (served_of_run ?_)
    unfold Bridge.scriptWaitDue at h
    split at h
    · rename_i hr
      split at h
      · split at h
        · cases h; exact hr
        · cases h
      · cases h
    · cases h
  · exact .refl g b

theorem Stage.replay_eq_some {x : Stage} {r : Replay} (h : x.replay = some r) : x = .restoring r := by
  cases x <;> cases h
  rfl

theorem Bridge.replayIssuing_stage {b : Bridge} {n : SlotId} {r : Replay} {t : Time}
    (h : b.replayIssuing n = some (r, t)) : (b.slot n).stage = .restoring r := by
  unfold Bridge.replayIssuing at h
  split at h
  · rename_i hr
    split at h
    · cases h; exact Stage.replay_eq_some hr
    · cases h
  · cases h

/-- A write copy is sent in place of the replay's record. -/
theorem Keeps.sendCopy {g : Settings} {b : Bridge} {n : SlotId} {i : BridgeTag} {r' : Replay}
    (hi : b.offeredEntry g n = some i) (hr : b.egressHasRoom n = true)
    (hs : (b.slot n).stage = .restoring r') (r : Replay) (w : WriteCopy) :
    Keeps g b (b.sendCopy g n i r w) := by
  have sent := Unmoved.sendOwn hi hr (g.replayWrite n w)
    (.cfgWrite (g.ownTarget n w.function w.offset) w.union) (.replay w.position)
  exact sent.trans_keeps (Lands.setReplay ((Slot.stage_of_view (sent.view n)).trans hs) _).keeps

theorem Bridge.offeredEntry_congr {b c : Bridge} (h : c.ort = b.ort) (g : Settings) (n : SlotId) :
    c.offeredEntry g n = b.offeredEntry g n := by
  simp only [Bridge.offeredEntry, Bridge.available, Bridge.inUseCount, Bridge.poolUse,
    Bridge.lowestFree, Bridge.status, h]
  rfl

theorem Keeps.takeAndSend {g : Settings} {b : Bridge} {n : SlotId} {i : BridgeTag} {r : Replay}
    (hi : b.offeredEntry g n = some i) (hr : b.egressHasRoom n = true)
    (hs : (b.slot n).stage = .restoring r) (x : ShadowKey) :
    Keeps g b (b.takeAndSend g n i r x) := by
  have read := Keeps.readShadow g b n r.cursor x .replayTake
  have rooms := SameRooms.readShadow b g n r.cursor x .replayTake
  unfold Bridge.takeAndSend
  rcases b.readShadow_cases g n r.cursor x .replayTake with ⟨c, u, v, e, hc⟩ | ⟨c, e, -⟩
  · rw [e] at read rooms ⊢
    refine read.trans (.sendCopy ?_ ?_ ((hc n).2.trans hs) _ _)
    · rw [Bridge.offeredEntry_congr rooms.ort, hi]
    · rw [egressHasRoom_iff] at hr ⊢
      rw [rooms.egress n]
      exact hr
  · rw [e] at read ⊢
    exact read.trans (.replayNext g c n)

theorem Keeps.replaySend (g : Settings) (b : Bridge) (n : SlotId) : Keeps g b (b.replaySend g n) := by
  unfold Bridge.replaySend
  split
  · rename_i r t i hs hi
    have stage := Bridge.replayIssuing_stage hs
    split
    · rename_i hr
      split
      · split
        · exact .takeAndSend hi hr stage _
        · exact .refl g b
      · split
        · exact .sendCopy hi hr stage _ _
        · exact .refl g b
    · exact .refl g b
  · exact .refl g b

theorem Keeps.replayIssueTimeout (g : Settings) (b : Bridge) (n : SlotId) :
    Keeps g b (b.replayIssueTimeout g n) := by
  unfold Bridge.replayIssueTimeout
  split
  · rename_i r h
    unfold Bridge.replayIssueDue at h
    split at h
    · rename_i hs
      exact .replayFail (by rw [Bridge.replayIssuing_stage hs]; nofun) _ _ _
    · cases h
  · exact .refl g b

theorem Keeps.replayRetryResume (g : Settings) (b : Bridge) (n : SlotId) :
    Keeps g b (b.replayRetryResume n) := by
  unfold Bridge.replayRetryResume
  split
  · rename_i r h
    refine (Lands.setReplay (r := r) ?_ _).keeps
    unfold Bridge.replayRetryDue at h
    split at h
    · rename_i hr
      split at h
      · split at h
        · cases h; exact Stage.replay_eq_some hr
        · cases h
      · cases h
    · cases h
  · exact .refl g b

end Sys2Proof.Machine
end

section
/-! PROOFS. The sideband controller and the links keep every law of the bridge. -/

namespace Sys2Proof.Machine

open Sys2Proof Sys2Proof.Safety

/-! ### Inputs (spec/05, R106 to R110) -/

theorem Unmoved.sense (g : Settings) (b : Bridge) (k : Settings) (n : SlotId) (line : InputLine) :
    Unmoved g b (b.sense k n line) := by
  unfold Bridge.sense
  exact Unmoved.modSlot (Calm.modSlot_of_same rfl rfl rfl rfl rfl rfl) rfl

theorem Unmoved.pinChange (g : Settings) (b : Bridge) (n : SlotId) (line : InputLine) (high : Bool) :
    Unmoved g b (b.pinChange g n line high) :=
  (Unmoved.modSlot (n := n) (f := fun s => { s with pins := s.pins.set line high })
    (Calm.modSlot_of_same rfl rfl rfl rfl rfl rfl) rfl).trans (.sense g _ g n line)

theorem Unmoved.takeFiltered (g : Settings) (b : Bridge) (n : SlotId) {line : InputLine} (level : Bool)
    (h : line ≠ .prsnt) : Unmoved g b (b.takeFiltered n line level) := by
  refine Unmoved.modSlot (Calm.modSlot_of_same rfl rfl rfl rfl rfl rfl) ?_
  cases line with
  | prsnt => exact absurd rfl h
  | pwrgd => rfl
  | attn => rfl

/-- The filtered presence level is part of the sequencer's record. -/
theorem Moved.takePresence (g : Settings) (b : Bridge) (n : SlotId) (level : Bool) :
    Moved g n b (b.takeFiltered n .prsnt level) { (b.slot n).view with present := level } :=
  Moved.modSlot (Calm.modSlot_of_same rfl rfl rfl rfl rfl rfl)

/-- A slot in EMPTY that enters OFF with presence. -/
theorem Moved.presence {g : Settings} {b : Bridge} {n : SlotId} (h : (b.slot n).stage = .empty) :
    Moved g n b (b.presence g n) { (b.slot n).view with stage := .off } := by
  unfold Bridge.presence
  rw [h]
  exact ((Moved.setStage g b n .off).trans_unmoved (.srstEntry g _ n)).trans_unmoved (.raise g _ g _)

theorem Bridge.presence_of_not_empty {g : Settings} {b : Bridge} {n : SlotId}
    (h : (b.slot n).stage ≠ .empty) : b.presence g n = b := by
  unfold Bridge.presence
  split
  · rename_i k; exact absurd k h
  · rfl

theorem Keeps.debouncedPresence (g : Settings) (b : Bridge) (n : SlotId) :
    Keeps g b (b.debouncedPresence g n) := by
  have taken := Moved.takePresence g b n true
  have stage : ((b.takeFiltered n .prsnt true).slot n).stage = (b.slot n).stage :=
    congrArg SeqView.stage taken.self
  unfold Bridge.debouncedPresence
  split
  · by_cases h : (b.slot n).stage = .empty
    · have k := Moved.presence (g := g) (stage.trans h)
      rw [taken.self] at k
      have hv : (b.slot n).view.stage = .empty := h
      refine (taken.trans k).keeps (iff_of_false nofun (by rw [h]; nofun))
        (iff_of_false nofun (by rw [h]; nofun)) ⟨fun hp => ?_, fun _ => ⟨nofun, nofun⟩, fun _ ha => ?_⟩
      · rw [SeqView.Powered, hv] at hp
        exact hp
      · exact ⟨ha.1, fun e => e.elim nofun nofun⟩
    · rw [Bridge.presence_of_not_empty (by rw [stage]; exact h)]
      exact taken.keeps Iff.rfl Iff.rfl ⟨id, fun _ => iff_of_false h nofun, fun _ => id⟩
  · exact .refl g b

theorem Keeps.debouncedLoss (g : Settings) (b : Bridge) (n : SlotId) :
    Keeps g b (b.debouncedLoss g n) := by
  have taken := Moved.takePresence g b n false
  have stage : ((b.takeFiltered n .prsnt false).slot n).stage = (b.slot n).stage :=
    congrArg SeqView.stage taken.self
  unfold Bridge.debouncedLoss
  split
  · by_cases h : (b.slot n).stage = .empty
    · have same : (b.takeFiltered n .prsnt false).presenceLoss g n = b.takeFiltered n .prsnt false := by
        unfold Bridge.presenceLoss
        rw [stage, h]
      rw [same]
      exact taken.keeps Iff.rfl Iff.rfl ⟨id, fun _ => iff_of_true h rfl, fun _ => id⟩
    · have k := Gone.presenceLoss (g := g) (b := b.takeFiltered n .prsnt false) (n := n)
        (by rw [stage]; exact h)
      rw [taken.self] at k
      exact (taken.trans_gone rfl k).keeps nofun nofun ⟨fun _ => ⟨rfl, nofun⟩,
        fun _ => iff_of_true rfl rfl, fun _ _ => ⟨Nat.zero_le _, fun _ => rfl⟩⟩
  · exact .refl g b

theorem Unmoved.attentionPress (g : Settings) (b : Bridge) (n : SlotId) :
    Unmoved g b (b.attentionPress g n) := by
  unfold Bridge.attentionPress
  split
  · exact (Unmoved.takeFiltered g b n (line := .attn) true nofun).trans (.raise g _ g _)
  · exact .refl g b

theorem Unmoved.attentionRelease (g : Settings) (b : Bridge) (n : SlotId) :
    Unmoved g b (b.attentionRelease g n) := by
  unfold Bridge.attentionRelease
  split
  · exact .takeFiltered g b n false nofun
  · exact .refl g b

/-! ### Power-good (spec/05, R113, R116) -/

theorem Moved.enterHold (g : Settings) (b : Bridge) (n : SlotId) (grant : Time) :
    Moved g n b (b.enterHold n grant)
      { (b.slot n).view with stage := .powering (.hold grant b.now), watch := true } :=
  (Moved.setStage g b n (.powering (.hold grant b.now))).then (f := fun v => { v with watch := true })
    (Moved.modSlot (Calm.modSlot_of_same rfl rfl rfl rfl rfl rfl))

theorem Stage.awaitGrant_eq_some {x : Stage} {t : Time} (h : x.awaitGrant = some t) :
    x = .powering (.awaitPwrgd t) := by
  unfold Stage.awaitGrant at h
  split at h
  · cases h; rfl
  · cases h

theorem Keeps.powerGoodTaken (g : Settings) (b : Bridge) (n : SlotId) :
    Keeps g b (b.powerGoodTaken g n) := by
  unfold Bridge.powerGoodTaken
  split
  · rename_i grant _ hg
    have hs := Stage.awaitGrant_eq_some hg
    have hv : (b.slot n).view.stage = .powering (.awaitPwrgd grant) := hs
    have taken := Unmoved.takeFiltered g b n (line := .pwrgd) true nofun
    have k := Moved.enterHold g (b.takeFiltered n .pwrgd true) n grant
    rw [taken.view n] at k
    refine (taken.trans_moved k).keeps (iff_of_false nofun (by rw [hs]; nofun))
      (iff_of_false nofun (by rw [hs]; nofun)) ⟨fun hp => ?_, fun hp => ?_, fun _ ha => ?_⟩
    · rw [SeqView.Powered, hv] at hp
      exact ⟨hp.1, fun _ => hp.1⟩
    · rw [SeqView.Present, hv] at hp
      exact iff_of_false nofun fun e => nomatch hp.2 e
    · exact ⟨ha.1, fun e => e.elim nofun nofun⟩
  · exact .refl g b

theorem Keeps.powerGoodLoss (g : Settings) (b : Bridge) (n : SlotId) :
    Keeps g b (b.powerGoodLoss g n) := by
  unfold Bridge.powerGoodLoss
  split
  · exact (Unmoved.takeFiltered g b n (line := .pwrgd) false nofun).trans_keeps (.powerLoss g _ n)
  · exact .refl g b

theorem Unmoved.unwatchedPwrgd (g : Settings) (b : Bridge) (n : SlotId) :
    Unmoved g b (b.unwatchedPwrgd g n) := by
  unfold Bridge.unwatchedPwrgd
  split
  · split
    · exact .refl g b
    · exact .takeFiltered g b n _ nofun
  · exact .refl g b

/-! ### Grants (spec/05, R112, R119 to R121) -/

theorem length_rememberGrant {l : List Time} (t : Time) (h : l.length ≤ 4) :
    (rememberGrant l t).length ≤ 4 := by
  have depth : Config.inrushDepth = 4 := rfl
  unfold rememberGrant
  rw [List.length_append, List.length_singleton, depth]
  split
  · omega
  · rw [List.length_tail]; omega

/-- The head of the Power Queue leaves it for its grant: the slot is between two states. -/
theorem Gone.takeGrant {g : Settings} {b : Bridge} {n : SlotId} {rest : List SlotId}
    (h : b.powerQueue = n :: rest) :
    Gone g n b { b with powerQueue := rest, inrush := rememberGrant b.inrush b.now }
      (b.slot n).view where
  rooms := fun ⟨h1, h2, h3, h4⟩ => ⟨h1, h2, length_rememberGrant _ h3, h4⟩
  counters := id
  shadow := id
  pool := id
  self := rfl
  others := fun _ _ => rfl
  now := rfl
  away := fun ⟨h1, h2, h3⟩ => by
    have hs : (b.slot n).stage = .powering .queued := (h3 n).1.1 (by rw [h]; exact List.mem_cons_self)
    have out : ¬(n ∈ b.qualQueue ∨ served b = some n) := fun e => by
      have k := (h3 n).2.1.1 e
      rw [hs] at k
      cases k
    rw [h, List.nodup_cons] at h1
    exact ⟨h1.2, h2, h1.1, fun e => out (.inl e), fun e => out (.inr e), fun m hm =>
      (h3 m).congr (by simp [h, hm]) Iff.rfl Iff.rfl rfl⟩
  apart := fun ha => absurd (by rw [h]; exact List.mem_cons_self) ha.power

/-- The grant powers the slot and leads it to HOLD or AWAIT-PWRGD. -/
theorem Moved.afterGrant (g : Settings) (b : Bridge) (n : SlotId) :
    ∃ p w, p ≠ .queued ∧ pwrenFits (.powering p) true = true ∧
      Moved g n b ((b.modSlot n fun s => { s with pwren := true }).afterGrant n)
        { (b.slot n).view with stage := .powering p, pwren := true, watch := w } := by
  have on : Moved g n b (b.modSlot n fun s => { s with pwren := true })
      { (b.slot n).view with pwren := true } :=
    Moved.modSlot (Calm.modSlot_of_same rfl rfl rfl rfl rfl rfl)
  unfold Bridge.afterGrant
  split
  · exact ⟨.hold _ _, true, nofun, rfl, on.then
      (f := fun v => { v with stage := .powering (.hold _ _), watch := true }) (.enterHold g _ n _)⟩
  · exact ⟨.awaitPwrgd _, _, nofun, rfl, on.then
      (f := fun v => { v with stage := .powering (.awaitPwrgd _) }) (.setStage g _ n _)⟩

theorem Keeps.grantPower {g : Settings} {b : Bridge} {n : SlotId} {rest : List SlotId}
    (h : b.powerQueue = n :: rest) : Keeps g b (b.grantPower n) := by
  have gone := Gone.takeGrant (g := g) h
  obtain ⟨p, w, hp, fits, move⟩ := Moved.afterGrant g
    { b with powerQueue := rest, inrush := rememberGrant b.inrush b.now } n
  have k := gone.trans_moved move
  have stage := congrArg SeqView.stage k.self
  have e : b.powerQueue.tail = rest := by rw [h]; rfl
  unfold Bridge.grantPower
  rw [e]
  exact
    { toStores := k.toStores
      queues := fun hb => (k.away hb).queued
        (fun e => hp (Stage.powering.inj (stage.symm.trans e))) (fun e => nomatch stage.symm.trans e)
      power := forall_view_of_moved k.self k.others fun _ => ⟨fits, fun _ => rfl⟩
      presence := fun hb => forall_view_of_moved k.self k.others fun hn => by
        have hs : (b.slot n).view.stage = .powering .queued :=
          (hb.2.2 n).1.1 (by rw [h]; exact List.mem_cons_self)
        rw [SeqView.Present, hs] at hn
        exact iff_of_false nofun fun e => nomatch hn.2 e
      attempts := fun _ => forall_view_of_moved
        (P := fun m v => v.Attempted (g.policy m).maxAttempts) k.self k.others
        fun ha => ⟨ha.1, fun e => e.elim nofun nofun⟩ }

theorem Keeps.powerGrant (g : Settings) (b : Bridge) : Keeps g b (b.powerGrant g) := by
  unfold Bridge.powerGrant
  split
  · rename_i n h
    unfold Bridge.grantDue at h
    split at h
    · rename_i m rest hq
      split at h
      · cases h; exact .grantPower hq
      · cases h
    · cases h
  · exact .refl g b

theorem Unmoved.expireInrush (g : Settings) (b : Bridge) : Unmoved g b b.expireInrush :=
  .of_slots (fun _ => rfl) (hi := Nat.le_trans (List.length_filter_le _ _))

/-! ### Timed ends (spec/05, R113, R114; spec/04, R95, R96) -/

/-- A slot with power that enters LINKING from another state outside the queues. -/
theorem Keeps.enterLinking {g : Settings} {b : Bridge} {n : SlotId}
    (hp : (b.slot n).stage ≠ .powering .queued) (hq : (b.slot n).stage ≠ .qualifying)
    (he : (b.slot n).stage ≠ .empty) (hw : ∀ p, pwrenFits (b.slot n).stage p = true → p = true) :
    Keeps g b (b.enterLinking n) :=
  (Moved.setStage g b n (.linking b.now)).keeps (iff_of_false nofun hp) (iff_of_false nofun hq)
    ⟨fun h => ⟨hw _ h.1, h.2⟩, fun h => iff_of_false nofun fun e => he (h.2 e),
      fun _ ha => ⟨ha.1, fun e => e.elim nofun nofun⟩⟩

theorem Keeps.sequenceComplete (g : Settings) (b : Bridge) (n : SlotId) :
    Keeps g b (b.sequenceComplete g n) := by
  unfold Bridge.sequenceComplete
  split
  · rename_i h
    unfold Bridge.sequenceDue at h
    split at h
    · rename_i hs
      exact .enterLinking (by rw [hs]; nofun) (by rw [hs]; nofun) (by rw [hs]; nofun)
        fun p hp => by rw [hs] at hp; exact hp
    · cases h
  · exact .refl g b

theorem Keeps.warmHoldEnd (g : Settings) (b : Bridge) (n : SlotId) :
    Keeps g b (b.warmHoldEnd g n) := by
  unfold Bridge.warmHoldEnd
  split
  · rename_i h
    unfold Bridge.warmHoldDue at h
    split at h
    · rename_i hs
      exact .enterLinking (by rw [hs]; nofun) (by rw [hs]; nofun) (by rw [hs]; nofun)
        fun p hp => by rw [hs] at hp; exact hp
    · cases h
  · exact .refl g b

theorem Keeps.powerGoodTimeout (g : Settings) (b : Bridge) (n : SlotId) :
    Keeps g b (b.powerGoodTimeout g n) := by
  unfold Bridge.powerGoodTimeout
  split
  · rename_i h
    unfold Bridge.powerTimeoutDue at h
    split at h
    · rename_i hg
      exact .powerFault (by rw [Stage.awaitGrant_eq_some hg]; nofun)
    · cases h
  · exact .refl g b

/-- A slot without power that enters phase QUEUED from a state outside the queues. -/
theorem SeqView.Kept.queued {top : Nat} {v : SeqView} (he : v.stage ≠ .empty)
    (hw : pwrenFits v.stage v.pwren = true → v.pwren = false) :
    SeqView.Kept top v { v with stage := .powering .queued } where
  power := fun h => ⟨by simp [pwrenFits, hw h.1], h.2⟩
  presence := fun h => iff_of_false nofun fun e => he (h.2 e)
  attempts := fun _ ha => ⟨ha.1, fun e => e.elim nofun nofun⟩

theorem Keeps.offTimeEnd (g : Settings) (b : Bridge) (n : SlotId) : Keeps g b (b.offTimeEnd g n) := by
  unfold Bridge.offTimeEnd
  split
  · rename_i h
    unfold Bridge.offTimeDue at h
    split at h
    · rename_i t hs
      have hv : (b.slot n).view.stage = .resetting .offWait t := hs
      exact .enterPowering (((Unmoved.refl g b).moved n).gone (by rw [hs]; nofun) (by rw [hs]; nofun))
        (.queued (by rw [hv]; nofun) fun hp => by
          rw [hv] at hp
          simpa [pwrenFits] using hp)
    · cases h
  · exact .refl g b

theorem Unmoved.blinkToggle (g : Settings) (b : Bridge) (n : SlotId) :
    Unmoved g b (b.blinkToggle n) := by
  unfold Bridge.blinkToggle
  split
  · exact Unmoved.modSlot (Calm.modSlot_of_same rfl rfl rfl rfl rfl rfl) rfl
  · exact .refl g b

/-! ### Links (spec/06, R124 to R128) -/

theorem Unmoved.setLink (g : Settings) (b : Bridge) (n : SlotId) (up : Bool) :
    Unmoved g b (b.setLink n up) :=
  Unmoved.modSlot (Calm.modSlot_of_same rfl rfl rfl rfl rfl rfl) rfl

theorem Keeps.linkRise (g : Settings) (b : Bridge) (n : SlotId) : Keeps g b (b.linkRise n) := by
  have link := Unmoved.setLink g b n true
  unfold Bridge.linkRise
  split
  · rename_i t hs
    have hv : (b.slot n).view.stage = .linking t := hs
    exact .enterQualifying ((link.moved n).gone (by rw [hs]; nofun) (by rw [hs]; nofun))
      ⟨fun h => by rw [SeqView.Powered, hv] at h; exact h,
        fun h => by
          rw [SeqView.Present, hv] at h
          exact iff_of_false nofun (fun e => nomatch h.2 e),
        fun _ ha => ⟨ha.1, fun e => e.elim nofun nofun⟩⟩
  · exact link.keeps

theorem Keeps.linkFall (g : Settings) (b : Bridge) (n : SlotId) : Keeps g b (b.linkFall g n) := by
  unfold Bridge.linkFall
  split
  · exact (Unmoved.setLink g b n false).trans_keeps (.takeTrigger g _ n _)
  · exact (Unmoved.setLink g b n false).keeps

theorem Keeps.linkTimeout (g : Settings) (b : Bridge) (n : SlotId) :
    Keeps g b (b.linkTimeout g n) := by
  unfold Bridge.linkTimeout
  split
  · rename_i h
    unfold Bridge.linkTimeoutDue at h
    split at h
    · rename_i hs
      exact .attemptFailure (by rw [hs]; nofun) _
    · cases h
  · exact .refl g b

end Sys2Proof.Machine
end

section
/-! PROOFS. Every command of the links, the engines, the timers and the lines acts on the bridge alone and keeps every
law of it; so does the block with no command waiting. -/

namespace Sys2Proof.Machine

open Sys2Proof Sys2Proof.Safety

/-! ### The commands that act on the bridge alone -/

/-- A read of the aperture at the head is answered while the bridge-origin queue has room. -/
theorem execApertureRead_keeps (s : State) :
    ∃ b, execApertureRead s = .next (onBridge s b) ∧ Keeps s.settings s.bridge b := by
  have same : ∃ b, Host.Outcome.next s = (.next (onBridge s b) : Host.Outcome State Fault Refusal) ∧
      Keeps s.settings s.bridge b := ⟨s.bridge, rfl, .refl _ _⟩
  unfold execApertureRead
  split
  · split
    · split
      · rename_i h
        exact ⟨_, rfl, (Unmoved.answerHead _ h _).keeps⟩
      · exact same
    · exact same
  · exact same

/-- A command of the links, the engines, the timers or the lines answers a state with another bridge alone, in which
every law of the bridge is kept. -/
theorem exec_bridgeCommand {c : Instr} (h : bridgeCommand c = true) (s : State) :
    ∃ b, exec c s = .next (onBridge s b) ∧ Keeps s.settings s.bridge b := by
  cases c with
  | hostTransactionAccept t => exact ⟨_, rfl, (Unmoved.acceptHost _ _ t).keeps⟩
  | upstreamHeadForward => exact ⟨_, rfl, (Unmoved.headForward _ _).keeps⟩
  | upstreamHeadNotAdmitted => exact ⟨_, rfl, .headNotAdmitted _ _⟩
  | unroutedRequest => exact ⟨_, rfl, (Unmoved.turnAwayUnrouted _ _).keeps⟩
  | malformedRequest side => exact ⟨_, rfl, (Unmoved.malformed _ _ side).keeps⟩
  | hostCompletionMatch => exact ⟨_, rfl, (Keeps.matchHost _ _).settle⟩
  | mgmtCfgRead => exact ⟨_, rfl, (Unmoved.mgmtCfgRead _ _).keeps⟩
  | apertureRead => exact execApertureRead_keeps s
  | cardTransactionAccept n t => exact ⟨_, rfl, (Unmoved.acceptCard _ _ n t).keeps⟩
  | cardHeadForward n => exact ⟨_, rfl, (Unmoved.cardForward _ _ n).keeps⟩
  | cardHeadRefused n => exact ⟨_, rfl, (Keeps.cardRefused _ _ n).settle⟩
  | cardHeadMessage n => exact ⟨_, rfl, (Keeps.cardMessage _ _ n).settle⟩
  | cardHeadNotAdmitted n => exact ⟨_, rfl, (Unmoved.cardNotAdmitted _ _ n).keeps⟩
  | cardCompletionMatch n => exact ⟨_, rfl, (Keeps.matchCard _ _ n).settle⟩
  | egressFifoSend n => exact ⟨_, rfl, (Unmoved.sendEgress _ _ n).keeps⟩
  | arbiterGrant => exact ⟨_, rfl, (Unmoved.arbiterGrant _ _).keeps⟩
  | standInHandOn => exact ⟨_, rfl, (Unmoved.standInHandOn _ _).keeps.settle⟩
  | directItemHandOn => exact ⟨_, rfl, (Unmoved.directHandOn _ _).keeps⟩
  | directItemTimeout => exact ⟨_, rfl, (Unmoved.directTimeout _ _).keeps⟩
  | deadlineExpiry i => exact ⟨_, rfl, (Keeps.examineDeadline _ _ i).settle⟩
  | holdExpiry i => exact ⟨_, rfl, (Unmoved.examineHold _ _ i).keeps.settle⟩
  | quietDecrement n => exact ⟨_, rfl, (Unmoved.quietDecrement _ _ n).keeps⟩
  | headStall => exact ⟨_, rfl, (Keeps.headStall _ _).settle⟩
  | alertWriteForm => exact ⟨_, rfl, (Unmoved.formAlert _ _).keeps⟩
  | inputPinChange n line high => exact ⟨_, rfl, (Unmoved.pinChange _ _ n line high).keeps⟩
  | debouncedPresence n => exact ⟨_, rfl, (Keeps.debouncedPresence _ _ n).settle⟩
  | debouncedPresenceLoss n => exact ⟨_, rfl, (Keeps.debouncedLoss _ _ n).settle⟩
  | attentionPress n => exact ⟨_, rfl, (Unmoved.attentionPress _ _ n).keeps⟩
  | attentionRelease n => exact ⟨_, rfl, (Unmoved.attentionRelease _ _ n).keeps⟩
  | powerGoodTaken n => exact ⟨_, rfl, .powerGoodTaken _ _ n⟩
  | powerGoodLoss n => exact ⟨_, rfl, (Keeps.powerGoodLoss _ _ n).settle⟩
  | unwatchedPwrgdChange n => exact ⟨_, rfl, (Unmoved.unwatchedPwrgd _ _ n).keeps⟩
  | powerGrant => exact ⟨_, rfl, .powerGrant _ _⟩
  | inrushHistoryExpiry => exact ⟨_, rfl, (Unmoved.expireInrush _ _).keeps⟩
  | sequenceComplete n => exact ⟨_, rfl, .sequenceComplete _ _ n⟩
  | powerGoodTimeout n => exact ⟨_, rfl, (Keeps.powerGoodTimeout _ _ n).settle⟩
  | warmHoldEnd n => exact ⟨_, rfl, .warmHoldEnd _ _ n⟩
  | offTimeEnd n => exact ⟨_, rfl, (Keeps.offTimeEnd _ _ n).settle⟩
  | indBlinkToggle n => exact ⟨_, rfl, (Unmoved.blinkToggle _ _ n).keeps⟩
  | linkUp n => exact ⟨_, rfl, (Keeps.linkRise _ _ n).settle⟩
  | linkDown n => exact ⟨_, rfl, (Keeps.linkFall _ _ n).settle⟩
  | linkTimeout n => exact ⟨_, rfl, (Keeps.linkTimeout _ _ n).settle⟩
  | scriptRequestSend => exact ⟨_, rfl, (Unmoved.scriptSend _ _).keeps⟩
  | scriptIssueTimeout => exact ⟨_, rfl, (Keeps.scriptIssueTimeout _ _).settle⟩
  | scriptRetryResume => exact ⟨_, rfl, (Unmoved.scriptRetryResume _ _).keeps⟩
  | scriptWaitEnd => exact ⟨_, rfl, (Keeps.scriptWaitEnd _ _).settle⟩
  | replayWriteSend n => exact ⟨_, rfl, (Keeps.replaySend _ _ n).settle⟩
  | replayIssueTimeout n => exact ⟨_, rfl, (Keeps.replayIssueTimeout _ _ n).settle⟩
  | replayRetryResume n => exact ⟨_, rfl, .replayRetryResume _ _ n⟩
  | _ => cases h

/-! ### The block with no command waiting (log 2) -/

theorem OrtWord.account_misread (w : OrtWord) (r : EntryRecord) (corrected : Bool) :
    (w.misread r corrected).status.account = w.status.account := by
  obtain ⟨status, flips, stuck⟩ := w
  cases status <;> rfl

/-- An upset of an ORT word that leaves its account. -/
theorem Unmoved.upsetWord {g : Settings} {b : Bridge} {i : BridgeTag} {f : OrtWord → OrtWord}
    (h : ∀ w, (f w).status.account = w.status.account) :
    Unmoved g b (b.upsetWord i f) := by
  have accounts : AccountsLe b (b.setWord i (f (b.ort.get i))) := .setWord (.inl (h _))
  exact Unmoved.of_ort (.setWord b i _) accounts

theorem Unmoved.strike (g : Settings) (b : Bridge) (u : Upset) : Unmoved g b (b.strike u) := by
  cases u with
  | ortFlip i bits =>
    exact .upsetWord (f := fun w => { w with flips := w.flips + bits }) fun _ => rfl
  | ortStuck i bits =>
    exact .upsetWord (f := fun w => { w with stuck := w.stuck + bits }) fun _ => rfl
  | ortMisread i r corrected => exact .upsetWord fun w => w.account_misread r corrected
  | shadowFlip k bits => exact .of_slots fun _ => rfl
  | shadowStuck k bits => exact .of_slots fun _ => rfl
  | shadowMisread k union value corrected => exact .of_slots fun _ => rfl

/-- The passing of a microsecond keeps the laws; no law names the timebase. -/
theorem Keeps.setNow (g : Settings) (b : Bridge) (t : Time) : Keeps g b { b with now := t } where
  rooms := id
  counters := id
  shadow := id
  pool := id
  queues := id
  power := id
  presence := fun _ => id
  attempts := fun _ => id

theorem Unmoved.strikeNext (g : Settings) (b : Bridge) : Unmoved g b b.strikeNext := by
  unfold Bridge.strikeNext
  split
  · refine Unmoved.trans ?_ (.strike g _ _)
    exact .of_slots fun _ => rfl
  · exact .refl g b

theorem Keeps.tick (g : Settings) (b : Bridge) : Keeps g b b.tick :=
  (Keeps.setNow g b (b.now + 1)).trans_unmoved (.strikeNext g _)

/-- A step with no command waiting acts on the bridge and the queue of commands alone. -/
theorem idle_keeps (s : State) :
    ∃ b pending, s.idle = { s with bridge := b, pending := pending } ∧
      Keeps s.settings s.bridge b := by
  unfold State.idle
  simp only
  split
  · exact ⟨_, _, rfl, (Unmoved.noteStall _ _ _).trans_keeps (.tick _ _)⟩
  · exact ⟨_, _, rfl, (Unmoved.noteStall _ _ _).keeps⟩

end Sys2Proof.Machine
end

section
/-! PROOFS. What a step may do to the settings and the bridge together: the relation `Passes`, under which every law of
the settings and the bridge is kept, and the commands that load settings. -/

namespace Sys2Proof.Machine

open Sys2Proof Sys2Proof.Safety

/-- The law of the settings, of the settings alone. -/
def Settings.Lawful (g : Settings) : Prop :=
  WindowLaw g ∧ BusLaw g ∧
    (∀ n : SlotId, TimingLaw (g.timing n) ∧ PolicyLaw (g.policy n) ∧ ScriptLaw (g.slot n).script) ∧
    sumSlots (fun n => (g.policy n).shadowLimit) ≤ 384 ∧ PartLaw g.part ∧
    g.alert.address.toNat % 4 = 0

theorem settingsLaw_iff (s : State) : SettingsLaw s ↔ s.settings.Lawful := Iff.rfl

/-- From settings `g` and bridge `b` to settings `k` and bridge `c` every law of the settings and the bridge is kept. -/
structure Passes (g : Settings) (b : Bridge) (k : Settings) (c : Bridge) : Prop where
  settings : g.Lawful → k.Lawful
  rooms : Roomy b → Roomy c
  counters : Counted b → Counted c
  shadow : g.Lawful → Shadowed g b → Shadowed k c
  pool : g.Lawful → Pooled g b → Pooled k c
  queues : Queued b → Queued c
  power : (∀ n, (b.slot n).view.Powered) → ∀ n, (c.slot n).view.Powered
  presence : Queued b → (∀ n, (b.slot n).view.Present) → ∀ n, (c.slot n).view.Present
  attempts : g.Lawful → (∀ n, (b.slot n).view.Attempted (g.policy n).maxAttempts) →
    ∀ n, (c.slot n).view.Attempted (k.policy n).maxAttempts

theorem Settings.Lawful.one_le_maxAttempts {g : Settings} (h : g.Lawful) (n : SlotId) :
    1 ≤ (g.policy n).maxAttempts := (h.2.2.1 n).2.1.1

/-- Other settings with the same policies, and a bridge in which the laws are kept. -/
theorem Keeps.passes_of_policy {g k : Settings} {b c : Bridge} (h : Keeps g b c)
    (hs : g.Lawful → k.Lawful) (hp : ∀ n, k.policy n = g.policy n) : Passes g b k c where
  settings := hs
  rooms := h.rooms
  counters := h.counters
  shadow := fun _ hb => by
    have e := h.shadow hb
    unfold Shadowed at e ⊢
    simp only [hp]
    exact e
  pool := fun _ hb => by
    have e := h.pool hb
    have q : k.quotas = g.quotas := funext fun n => congrArg SlotPolicy.quota (hp n)
    unfold Pooled at e ⊢
    rw [q]
    exact e
  queues := h.queues
  power := h.power
  presence := h.presence
  attempts := fun hg ha n => by
    rw [hp n]
    exact h.attempts hg.one_le_maxAttempts ha n

theorem Keeps.passes {g : Settings} {b c : Bridge} (h : Keeps g b c) : Passes g b g c :=
  h.passes_of_policy id fun _ => rfl

theorem Passes.refl (g : Settings) (b : Bridge) : Passes g b g b := (Keeps.refl g b).passes

/-- The answer of a command is a refusal, or keeps every law. -/
def Answer.Passes (g : Settings) (b : Bridge) : Answer → Prop
  | .refused _ => True
  | .done k c _ => Machine.Passes g b k c

theorem Answer.Passes.withSlot {g : Settings} {b : Bridge} {a : Vector Word 8} {f : SlotId → Answer}
    (h : ∀ n, (f n).Passes g b) : (withSlot a f).Passes g b := by
  unfold Machine.withSlot
  split
  · exact h _
  · exact True.intro

theorem State.process_passes {s t : State} {op : Nat}
    {command : Vector Word 8 → Settings → Bridge → Answer}
    (h : ∀ a, (command a s.settings s.bridge).Passes s.settings s.bridge)
    (ht : s.process op command = .next t) : Passes s.settings s.bridge t.settings t.bridge := by
  rcases State.process_next ht with rfl | ⟨k, a, -, -, rfl⟩
  · exact .refl _ _
  · have ha := h a
    generalize command a s.settings s.bridge = x at ha
    cases x with
    | refused status => exact .refl _ _
    | done g b results => exact ha

/-! ### Settings of one slot -/

theorem busLaw_congr {g k : Settings} (h : ∀ n, (k.slot n).busRange = (g.slot n).busRange)
    (hg : BusLaw g) : BusLaw k := by
  unfold BusLaw at hg ⊢
  simp only [h]
  exact hg

/-- New settings of one slot in their ranges, with a bus range and a shadow limit that fit the others'. -/
theorem Settings.Lawful.modSlot {g : Settings} {n : SlotId} {f : SlotSettings → SlotSettings}
    (h : g.Lawful) (hb : BusLaw (g.modSlot n f)) (ht : TimingLaw (f (g.slot n)).timing)
    (hp : PolicyLaw (f (g.slot n)).policy) (hx : ScriptLaw (f (g.slot n)).script)
    (hs : sumSlots (fun m => ((g.modSlot n f).policy m).shadowLimit) ≤ 384) :
    (g.modSlot n f).Lawful := by
  obtain ⟨windows, -, slots, -, part, alert⟩ := h
  refine ⟨windows, hb, fun m => ?_, hs, part, alert⟩
  unfold Settings.timing Settings.policy
  rw [Settings.slot_modSlot]
  split
  · exact ⟨ht, hp, hx⟩
  · exact slots m

theorem Settings.policy_modSlot {g : Settings} {n : SlotId} {f : SlotSettings → SlotSettings}
    (h : (f (g.slot n)).policy = (g.slot n).policy) (m : SlotId) :
    (g.modSlot n f).policy m = g.policy m := by
  unfold Settings.policy
  rw [Settings.slot_modSlot]
  split
  · rename_i e; rw [h, e]
  · rfl

theorem Settings.busRange_modSlot {g : Settings} {n : SlotId} {f : SlotSettings → SlotSettings}
    (h : (f (g.slot n)).busRange = (g.slot n).busRange) (m : SlotId) :
    ((g.modSlot n f).slot m).busRange = (g.slot m).busRange := by
  rw [Settings.slot_modSlot]
  split
  · rename_i e; rw [h, e]
  · rfl

/-- New settings of one slot that leave its bus range and its policies. -/
theorem Settings.Lawful.modSlot_of_same {g : Settings} {n : SlotId} {f : SlotSettings → SlotSettings}
    (h : g.Lawful) (hb : (f (g.slot n)).busRange = (g.slot n).busRange)
    (hp : (f (g.slot n)).policy = (g.slot n).policy) (ht : TimingLaw (f (g.slot n)).timing)
    (hx : ScriptLaw (f (g.slot n)).script) : (g.modSlot n f).Lawful := by
  have slots := h.2.2.1 n
  refine h.modSlot (busLaw_congr (Settings.busRange_modSlot hb) h.2.1) ht ?_ hx ?_
  · rw [hp]; exact slots.2.1
  · simp only [Settings.policy_modSlot hp]; exact h.2.2.2.1

/-- A command that loads settings of one slot beside its policies passes. -/
theorem Passes.modSlot {g : Settings} {n : SlotId} {f : SlotSettings → SlotSettings} (b : Bridge)
    (hp : (f (g.slot n)).policy = (g.slot n).policy)
    (h : g.Lawful → (g.modSlot n f).Lawful) : Passes g b (g.modSlot n f) b :=
  (Keeps.refl g b).passes_of_policy h (Settings.policy_modSlot hp)

theorem inRange_iff (x low high : Nat) : inRange x low high = true ↔ low ≤ x ∧ x ≤ high := by
  simp [inRange]

/-- A field of a word is below the power of two of its width. -/
theorem bitField_lt (w : Word) (lo len : Nat) : bitField w lo len < 2 ^ len := BitVec.isLt _

theorem timingLaw_clamped {t : SlotTiming} (h : t.fits = true) : TimingLaw t.clamped := by
  simp only [SlotTiming.fits, Bool.and_eq_true, inRange_iff] at h
  simp only [TimingLaw, SlotTiming.clamped, clampCode]
  omega

theorem setSlotTiming_passes (a : Vector Word 8) (g : Settings) (b : Bridge) :
    (setSlotTiming a g b).Passes g b := by
  refine .withSlot fun n => ?_
  split
  · rename_i h
    exact Passes.modSlot b rfl fun hg => hg.modSlot_of_same rfl rfl (timingLaw_clamped h) (hg.2.2.1 n).2.2
  · exact True.intro

theorem loadScriptStep_passes (a : Vector Word 8) (g : Settings) (b : Bridge) :
    (loadScriptStep a g b).Passes g b := by
  refine .withSlot fun n => ?_
  dsimp only
  split
  · split
    · exact Passes.modSlot b rfl fun hg =>
        hg.modSlot_of_same rfl rfl (hg.2.2.1 n).1 (hg.2.2.1 n).2.2
    · exact True.intro
  · exact True.intro

theorem setScript_passes (a : Vector Word 8) (g : Settings) (b : Bridge) :
    (setScript a g b).Passes g b := by
  refine .withSlot fun n => ?_
  dsimp only
  split
  · rename_i h
    simp only [Bool.and_eq_true, inRange_iff, decide_eq_true_eq] at h
    have limit := bitField_lt (a.get 1) 8 8
    have interval := bitField_lt (a.get 1) 16 8
    exact Passes.modSlot b rfl fun hg => hg.modSlot_of_same rfl rfl (hg.2.2.1 n).1
      ⟨h.1.2, Nat.le_of_lt_succ limit, Nat.pos_of_ne_zero h.2, Nat.le_of_lt_succ interval⟩
  · exact True.intro

theorem setExclusion_passes (a : Vector Word 8) (g : Settings) (b : Bridge) :
    (setExclusion a g b).Passes g b := by
  refine .withSlot fun n => ?_
  split
  · exact Passes.modSlot b rfl fun hg =>
      hg.modSlot_of_same rfl rfl (hg.2.2.1 n).1 (hg.2.2.1 n).2.2
  · exact True.intro

theorem Unmoved.senseSlot (g : Settings) (b : Bridge) (k : Settings) (n : SlotId) :
    Unmoved g b (b.senseSlot k n) :=
  ((Unmoved.sense g b k n .prsnt).trans (.sense g _ k n .pwrgd)).trans (.sense g _ k n .attn)

theorem setSideband_passes (a : Vector Word 8) (g : Settings) (b : Bridge) :
    (setSideband a g b).Passes g b := by
  refine .withSlot fun n => ?_
  exact (Unmoved.senseSlot g b _ n).keeps.passes_of_policy
    (fun hg => hg.modSlot_of_same rfl rfl (hg.2.2.1 n).1 (hg.2.2.1 n).2.2)
    (Settings.policy_modSlot rfl)

/-! ### Windows (spec/01, R5, R6) -/

theorem Window.overlaps_comm (v w : Window) : v.overlaps w = w.overlaps v := Bool.and_comm _ _

theorem Window.rivals_comm (v w : Window) : v.rivals w = w.rivals v := by
  unfold Window.rivals
  cases v.kind <;> cases w.kind <;> simp only [eq_comm]

theorem Window.conflicts_comm (v w : Window) : v.conflicts w = w.conflicts v := by
  unfold Window.conflicts
  rw [v.overlaps_comm w, v.rivals_comm w]

theorem Settings.windows_putWindow (g : Settings) (i : Nat) (w : Option Window) (j : Fin 48) :
    (g.putWindow i w).windows.get j = if j.val = i then w else g.windows.get j := by
  unfold Settings.putWindow
  simp only [Vector.get_eq_getElem, Vector.getElem_setIfInBounds, eq_comm]

/-- The window loaded conflicts with no other valid entry. -/
theorem Settings.not_overlapsOther {g : Settings} {i : Nat} {w : Window}
    (h : g.overlapsOther i w = false) {j : Fin 48} {v : Window} (hj : j.val ≠ i)
    (hv : g.windows.get j = some v) : Window.conflicts v w = false := by
  have k := List.any_eq_false.1 h j (List.mem_finRange j)
  simpa [hj, hv] using k

/-- A window that fits its bounds and conflicts with no other keeps the law of the table. -/
theorem windowLaw_put {g : Settings} (h : WindowLaw g) (i : Nat) {w : Window}
    (hb : w.boundsFit = true) (ho : g.overlapsOther i w = false) :
    WindowLaw (g.putWindow i (some w)) := by
  obtain ⟨bounds, apart⟩ := h
  refine ⟨fun j v hj => ?_, fun j l v u hjl hv hu => ?_⟩
  · rw [Settings.windows_putWindow] at hj
    split at hj
    · cases hj; exact hb
    · exact bounds j v hj
  · rw [Settings.windows_putWindow] at hv hu
    split at hv <;> rename_i ej <;> split at hu <;> rename_i el
    · exact absurd (Fin.ext (ej.trans el.symm)) hjl
    · cases hv
      rw [Window.conflicts_comm]
      exact Settings.not_overlapsOther ho el hu
    · cases hu
      exact Settings.not_overlapsOther ho ej hv
    · exact apart j l v u hjl hv hu

theorem windowLaw_clear {g : Settings} (h : WindowLaw g) (i : Nat) : WindowLaw (g.putWindow i none) := by
  obtain ⟨bounds, apart⟩ := h
  have old : ∀ j v, (g.putWindow i none).windows.get j = some v → g.windows.get j = some v := by
    intro j v hj
    rw [Settings.windows_putWindow] at hj
    split at hj
    · cases hj
    · exact hj
  exact ⟨fun j v hj => bounds j v (old j v hj),
    fun j l v u hjl hv hu => apart j l v u hjl (old j v hv) (old l u hu)⟩

theorem Passes.putWindow {g : Settings} {i : Nat} {w : Option Window} (b : Bridge)
    (h : WindowLaw g → WindowLaw (g.putWindow i w)) : Passes g b (g.putWindow i w) b :=
  (Keeps.refl g b).passes_of_policy
    (fun ⟨windows, rest⟩ => ⟨h windows, rest⟩) fun _ => rfl

theorem setWindow_passes (a : Vector Word 8) (g : Settings) (b : Bridge) :
    (setWindow a g b).Passes g b := by
  refine .withSlot fun n => ?_
  dsimp only
  split
  · exact True.intro
  · rename_i hb
    split
    · exact True.intro
    · rename_i ho
      have bounds : (windowOf a n).boundsFit = true := by
        simp only [Bool.or_eq_true, not_or, Bool.not_eq_true', Bool.not_eq_false] at hb
        exact hb.2
      exact Passes.putWindow b fun h => windowLaw_put h _ bounds (Bool.not_eq_true _ ▸ ho)

theorem clearWindow_passes (a : Vector Word 8) (g : Settings) (b : Bridge) :
    (clearWindow a g b).Passes g b := by
  unfold clearWindow
  split
  · exact True.intro
  · exact Passes.putWindow b fun h => windowLaw_clear h _

/-! ### Bus ranges (spec/01, R7) -/

theorem BusRange.conflicts_comm (x y : BusRange) : x.conflicts y = y.conflicts x := by
  unfold BusRange.conflicts
  rw [Bool.and_comm x.valid y.valid, Bool.and_assoc, Bool.and_comm (decide _), ← Bool.and_assoc]

theorem mem_allSlots (n : SlotId) : n ∈ allSlots := by revert n; decide

theorem Settings.not_busConflict {g : Settings} {n : SlotId} {x : BusRange}
    (h : g.busConflict n x = false) {m : SlotId} (hm : m ≠ n) :
    (g.slot m).busRange.conflicts x = false := by
  have k := List.any_eq_false.1 h m (mem_allSlots m)
  simpa [hm] using k

/-- A range made invalid conflicts with none. -/
theorem BusRange.conflicts_of_invalid {x : BusRange} (h : x.valid = false) (y : BusRange) :
    x.conflicts y = false := by simp [BusRange.conflicts, h]

/-- The range of slot `n` after SET-BUS-RANGE keeps the law of the ranges. -/
theorem busLaw_load {g : Settings} (h : BusLaw g) {n : SlotId} {x : BusRange}
    (hx : x.first.toNat ≤ x.last.toNat) (hc : g.busConflict n x = false) :
    BusLaw (g.modSlot n fun s => { s with busRange := BusRange.loaded s.busRange x }) := by
  obtain ⟨order, apart⟩ := h
  have new : ∀ m, m ≠ n →
      (g.slot m).busRange.conflicts (BusRange.loaded (g.slot n).busRange x) = false := fun m hm => by
    unfold BusRange.loaded
    split
    · exact Settings.not_busConflict hc hm
    · rw [BusRange.conflicts_comm]; exact BusRange.conflicts_of_invalid rfl _
  refine ⟨fun m hm => ?_, fun m l hml => ?_⟩
  · rw [Settings.slot_modSlot] at hm ⊢
    split at hm <;> rename_i e
    · simp only [e, if_true] at hm ⊢
      unfold BusRange.loaded at hm ⊢
      split at hm
      · rename_i hv; rw [if_pos hv]; exact hx
      · cases hm
    · rw [if_neg e]; exact order m hm
  · rw [Settings.slot_modSlot, Settings.slot_modSlot]
    split <;> rename_i em <;> split <;> rename_i el
    · exact absurd (em.trans el.symm) hml
    · rw [BusRange.conflicts_comm]; exact new l el
    · exact new m em
    · exact apart m l hml

theorem setBusRange_passes (a : Vector Word 8) (g : Settings) (b : Bridge) :
    (setBusRange a g b).Passes g b := by
  refine .withSlot fun n => ?_
  dsimp only
  split
  · exact True.intro
  · rename_i hx
    split
    · exact True.intro
    · rename_i hc
      have same := Settings.policy_modSlot (g := g) (n := n)
        (f := fun s => { s with busRange := BusRange.loaded s.busRange (busRangeOf a) }) rfl
      refine (Keeps.refl g b).passes_of_policy (fun hg => ?_) same
      have slots := hg.2.2.1 n
      refine hg.modSlot (busLaw_load hg.2.1 (Nat.le_of_not_lt hx) (Bool.not_eq_true _ ▸ hc)) slots.1
        slots.2.1 slots.2.2 ?_
      simp only [same]
      exact hg.2.2.2.1

/-! ### The part's policies -/

theorem partLaw_clamped {p : PartPolicy} (h : p.fits = true) : PartLaw p.clamped := by
  simp only [PartPolicy.fits, Bool.and_eq_true, Bool.or_eq_true, decide_eq_true_eq, inRange_iff] at h
  simp only [PartLaw, PartPolicy.clamped, clampCode]
  omega

theorem setPartPolicy_passes (a : Vector Word 8) (g : Settings) (b : Bridge) :
    (setPartPolicy a g b).Passes g b := by
  unfold setPartPolicy
  split
  · rename_i h
    rw [Bool.and_eq_true] at h
    exact (Keeps.refl g b).passes_of_policy
      (fun ⟨windows, buses, slots, sum, _, _⟩ =>
        ⟨windows, buses, slots, sum, partLaw_clamped h.1, of_decide_eq_true h.2⟩) fun _ => rfl
  · exact True.intro

/-! ### A slot's policies (spec/10, R192; spec/02, R29; spec/04, R98, R100; spec/07, R147) -/

theorem Unmoved.keepHeadAnswer (g : Settings) (b : Bridge) (n : SlotId) (old : SlotPolicy) :
    Unmoved g b (b.keepHeadAnswer n old) := by
  obtain ⟨x, e⟩ := b.keepHeadAnswer_frame n old
  rw [e]
  exact .of_slots fun _ => rfl

/-- New policies cut the attempt counter to their maximum, and may turn PWREN off in PARKED. -/
theorem Moved.applyPolicy (g : Settings) (b : Bridge) (n : SlotId) (old new : SlotPolicy) :
    ∃ p w, ((b.slot n).stage ≠ .parked → p = (b.slot n).view.pwren ∧ w = (b.slot n).view.watch) ∧
      ((b.slot n).view.Powered → w = true → p = true) ∧
      Moved g n b (b.applyPolicy n old new)
        { (b.slot n).view with
          attempts := min (b.slot n).attempts new.maxAttempts
          pwren := p
          watch := w } := by
  have cut : Moved g n b ((b.keepHeadAnswer n old).modSlot n fun s =>
      { s with attempts := min s.attempts new.maxAttempts })
      { (b.slot n).view with attempts := min (b.slot n).attempts new.maxAttempts } := by
    have k := Moved.modSlot (g := g) (n := n) (b := b.keepHeadAnswer n old)
      (f := fun s => { s with attempts := min s.attempts new.maxAttempts })
      (Calm.modSlot_of_same rfl rfl rfl rfl rfl rfl)
    rw [Bridge.keepHeadAnswer_slot] at k
    exact (Unmoved.keepHeadAnswer g b n old).trans_moved k
  unfold Bridge.applyPolicy
  dsimp only
  split
  · rename_i h
    exact ⟨false, false, fun e => absurd h.1 e, fun _ => id,
      cut.then (f := fun v => { v with pwren := false, watch := false }) (.pwrenOff g _ n)⟩
  · exact ⟨_, _, fun _ => ⟨rfl, rfl⟩, fun h => h.2, cut⟩

theorem Settings.policy_load (g : Settings) (n : SlotId) (p : SlotPolicy) (m : SlotId) :
    (g.modSlot n fun s => { s with policy := p }).policy m = if m = n then p else g.policy m := by
  unfold Settings.policy
  rw [Settings.slot_modSlot]
  split <;> rfl

/-- A quantity of the policies as the checks of R29 and R147 take it is that of the new policies. -/
theorem Settings.withNew_eq (g : Settings) (f : SlotPolicy → Nat) (n : SlotId) (p : SlotPolicy) :
    g.withNew f n (f p) = fun m => f ((g.modSlot n fun s => { s with policy := p }).policy m) := by
  funext m
  unfold Settings.withNew
  rw [Settings.policy_load]
  split <;> rfl

theorem AccountsLe.applyPolicy (b : Bridge) (n : SlotId) (old new : SlotPolicy) :
    AccountsLe b (b.applyPolicy n old new) := by
  refine .of_ort ?_
  obtain ⟨x, e⟩ := b.keepHeadAnswer_frame n old
  unfold Bridge.applyPolicy
  rw [e]
  dsimp only
  split <;> rfl

theorem policyLaw_of_fits {p : SlotPolicy} (h : p.fits = true) : PolicyLaw p := by
  simp only [SlotPolicy.fits, Bool.and_eq_true, inRange_iff] at h
  simp only [PolicyLaw]
  omega

/-- New policies that pass the checks keep every law. -/
theorem Passes.applyPolicy {g : Settings} {b : Bridge} {n : SlotId} {p : SlotPolicy}
    (hf : p.fits = true) (ha : b.accountsExceed g n p.quota = false)
    (hl : b.limitsExceed g n p.shadowLimit = false) :
    Passes g b (g.modSlot n fun s => { s with policy := p }) (b.applyPolicy n (g.policy n) p) := by
  obtain ⟨pw, w, same, watched, k⟩ := Moved.applyPolicy g b n (g.policy n) p
  have law := policyLaw_of_fits hf
  simp only [Bridge.limitsExceed, Bool.or_eq_false_iff, decide_eq_false_iff_not, Nat.not_lt,
    Settings.withNew_eq] at hl
  simp only [Bridge.accountsExceed, decide_eq_false_iff_not, Nat.not_lt, Settings.withNew_eq] at ha
  have lists : ∀ m, ((b.applyPolicy n (g.policy n) p).slot m).shadow = (b.slot m).shadow := fun m => by
    unfold Bridge.applyPolicy
    dsimp only
    split <;> by_cases e : m = n <;> simp [Bridge.pwrenOff, Bridge.slot_modSlot, e]
  exact
    { settings := fun hg => hg.modSlot (busLaw_congr (Settings.busRange_modSlot rfl) hg.2.1)
        (hg.2.2.1 n).1 law (hg.2.2.1 n).2.2 hl.1
      rooms := k.rooms
      counters := k.counters
      shadow := fun _ hb m => by
        obtain ⟨h1, h2, h3, h4⟩ := hb m
        simp only [lists]
        refine ⟨?_, h2, h3, h4⟩
        rw [Settings.policy_load]
        split
        · rename_i e; rw [e]; exact hl.2
        · exact h1
      pool := fun _ _ =>
        Nat.le_trans (sharedUse_le (AccountsLe.applyPolicy b n (g.policy n) p).inUseCount_le) ha
      queues := (k.keeps Iff.rfl Iff.rfl
        ⟨fun h => ⟨by
            by_cases e : (b.slot n).view.stage = .parked
            · show pwrenFits (b.slot n).view.stage pw = true
              rw [e]; rfl
            · rw [(same e).1]; exact h.1, watched h⟩,
          id, fun _ h => ⟨Nat.le_trans (Nat.min_le_left _ _) h.1,
            fun e => by
              have z : (b.slot n).attempts = 0 := h.2 e
              simp [z]⟩⟩).queues
      power := forall_view_of_moved k.self k.others fun h => ⟨by
        by_cases e : (b.slot n).view.stage = .parked
        · show pwrenFits (b.slot n).view.stage pw = true
          rw [e]; rfl
        · rw [(same e).1]; exact h.1, watched h⟩
      presence := fun _ => forall_view_of_moved k.self k.others id
      attempts := fun _ h m => by
        rw [Settings.policy_load]
        by_cases e : m = n
        · subst e
          rw [k.self, if_pos rfl]
          refine ⟨Nat.min_le_right _ _, fun e => ?_⟩
          have z : (b.slot m).attempts = 0 := (h m).2 e
          simp [z]
        · rw [k.others m e, if_neg e]; exact h m }

theorem setSlotPolicy_passes (a : Vector Word 8) (g : Settings) (b : Bridge) :
    (setSlotPolicy a g b).Passes g b := by
  refine .withSlot fun n => ?_
  dsimp only
  split
  · exact True.intro
  · rename_i hf
    split
    · exact True.intro
    · rename_i hr
      rw [Bool.not_eq_true, Bool.or_eq_false_iff] at hr
      exact Passes.applyPolicy (by simpa using hf) hr.1 hr.2

end Sys2Proof.Machine
end

section
/-! PROOFS. The commands of the management unit that act on the bridge, the cells, and the two resets. -/

namespace Sys2Proof.Machine

open Sys2Proof Sys2Proof.Safety

/-! ### The commands that act on a slot's state (spec/04, R104) -/

theorem Keeps.answer {g : Settings} {b c : Bridge} (h : Keeps g b c) (ws : Vector Word 7) :
    (Answer.done g c ws).Passes g b := h.passes

/-- A slot in OFF is powered on. -/
theorem Keeps.powerOnSlot {g : Settings} {b : Bridge} {n : SlotId} (h : (b.slot n).stage = .off)
    (restore : Bool) : Keeps g b (b.powerOnSlot g n restore) := by
  have hv : (b.slot n).view.stage = .off := h
  have cleared : Moved g n b (b.modSlot n fun s => { s with restore := restore, attempts := 0 })
      { (b.slot n).view with attempts := 0 } :=
    Moved.modSlot (Calm.modSlot_of_same rfl rfl rfl rfl rfl rfl)
  refine .enterPowering (cleared.gone (by rw [h]; nofun) (by rw [h]; nofun)) ⟨fun hp => ?_, fun hp => ?_,
    fun _ _ => ⟨Nat.zero_le _, fun _ => rfl⟩⟩
  · rw [SeqView.Powered, hv] at hp
    exact hp
  · rw [SeqView.Present, hv] at hp
    exact iff_of_false nofun fun e => nomatch hp.2 e

theorem powerOn_passes (a : Vector Word 8) (g : Settings) (b : Bridge) :
    (powerOn a g b).Passes g b := by
  refine .withSlot fun n => ?_
  split
  · rename_i h
    exact (Keeps.powerOnSlot h _).settle.answer _
  · exact True.intro

theorem powerOff_passes (a : Vector Word 8) (g : Settings) (b : Bridge) :
    (powerOff a g b).Passes g b := by
  refine .withSlot fun n => ?_
  split
  · exact True.intro
  · exact True.intro
  · rename_i he _
    exact (Keeps.powerOffSlot he).settle.answer _

theorem fence_passes (a : Vector Word 8) (g : Settings) (b : Bridge) : (fence a g b).Passes g b := by
  refine .withSlot fun n => ?_
  split
  · exact (Keeps.takeTrigger g b n _).settle.answer _
  · exact True.intro

/-- A slot in PARKED starts recovery with its attempts at 0. -/
theorem Keeps.recoverParked {g : Settings} {b : Bridge} {n : SlotId} (h : (b.slot n).stage = .parked) :
    Keeps g b (b.recoverParked g n) := by
  have hv : (b.slot n).view.stage = .parked := h
  have cleared : Moved g n b (b.modSlot n fun s => { s with attempts := 0 })
      { (b.slot n).view with attempts := 0 } :=
    Moved.modSlot (Calm.modSlot_of_same rfl rfl rfl rfl rfl rfl)
  refine ((cleared.then (f := fun v => v.resetting (g.policy n).escalation b.now)
    (.startRecovery g _ n)).gone (by rw [h]; nofun) (by rw [h]; nofun)).keeps_of_plain rfl
    (.of_plain rfl (by rw [hv]; nofun) rfl (fun _ => SeqView.resetting_powered _ _ _) fun ht _ => ht)

theorem recover_passes (a : Vector Word 8) (g : Settings) (b : Bridge) :
    (recover a g b).Passes g b := by
  refine .withSlot fun n => ?_
  split
  · rename_i h
    exact (Keeps.startRecovery h).settle.answer _
  · rename_i h
    exact (Keeps.recoverParked h).settle.answer _
  · exact True.intro

/-! ### The commands that read -/

theorem readSlot_passes (a : Vector Word 8) (g : Settings) (b : Bridge) :
    (readSlot a g b).Passes g b := by
  refine .withSlot fun n => ?_
  split
  · exact (Keeps.refl g b).answer _
  · exact True.intro

theorem readEntry_passes (a : Vector Word 8) (g : Settings) (b : Bridge) :
    (readEntry a g b).Passes g b := by
  unfold readEntry
  dsimp only
  split
  · exact (Unmoved.readEntry g b _ .readEntry).keeps.settle.answer _
  · exact True.intro

theorem readShadow_passes (a : Vector Word 8) (g : Settings) (b : Bridge) :
    (readShadow a g b).Passes g b := by
  refine .withSlot fun n => ?_
  split
  · unfold readShadowAt
    split
    · rename_i p x _
      have read := Keeps.readShadow g b n (bitField (a.get 1) 0 16) x .readShadow
      split
      · rename_i e
        rw [e] at read
        exact read.answer _
      · rename_i c e
        rw [e] at read
        exact (read.trans (.replayRecheck g c n)).settle.answer _
    · exact (Keeps.refl g b).answer _
  · exact True.intro

theorem readErrorLog_passes (a : Vector Word 8) (g : Settings) (b : Bridge) :
    (readErrorLog a g b).Passes g b := (Keeps.refl g b).answer _

/-! ### The commands that delete, clear and reclaim -/

theorem deleteShadowRecord_passes (a : Vector Word 8) (g : Settings) (b : Bridge) :
    (deleteShadowRecord a g b).Passes g b := by
  refine .withSlot fun n => ?_
  split
  · refine (Keeps.settle ?_).answer _
    unfold Bridge.deleteKey
    split
    · exact (Keeps.removeRecord g b n _).trans (.replayRecheck g _ n)
    · exact .refl g b
  · exact True.intro

theorem Keeps.emptyShadow (g : Settings) (b : Bridge) (n : SlotId) :
    Keeps g b (b.emptyShadow g n) := by
  refine Keeps.trans ?_ (.replayRecheck g _ n)
  refine Keeps.modSlot_of_list (.refl g b) ⟨rfl, rfl, rfl, rfl, rfl, fun _ => 0, rfl⟩ fun _ => ?_
  exact Shadowed.modSlot_subperm (List.nil_subperm (l := (b.slot n).shadow))

theorem clearShadow_passes (a : Vector Word 8) (g : Settings) (b : Bridge) :
    (clearShadow a g b).Passes g b :=
  .withSlot fun n => (Keeps.emptyShadow g b n).settle.answer _

theorem clearFaults_passes (a : Vector Word 8) (g : Settings) (b : Bridge) :
    (clearFaults a g b).Passes g b := by
  refine .withSlot fun n => ?_
  refine Keeps.answer (Unmoved.keeps (Unmoved.modSlot (Calm.modSlot
    ⟨Nat.le_refl _, Nat.le_refl _, Nat.le_refl _, fun h => ⟨?_, Nat.zero_le _⟩⟩ rfl) rfl)) _
  obtain ⟨⟨-, -, -, -, -, -, -, -, -, h⟩, -⟩ := h
  exact ⟨Nat.zero_le _, Nat.zero_le _, Nat.zero_le _, Nat.zero_le _, Nat.zero_le _, Nat.zero_le _,
    Nat.zero_le _, Nat.zero_le _, Nat.zero_le _, h⟩

theorem Unmoved.clearFlags (g : Settings) (b : Bridge) (n : SlotId) (kinds : BitVec 8)
    (part : BitVec 2) : Unmoved g b (b.clearFlags n kinds part) := by
  refine Unmoved.trans (c := b.modSlot n fun s => { s with flags := s.flags &&& ~~~ kinds })
    (Unmoved.modSlot (Calm.modSlot_of_same rfl rfl rfl rfl rfl rfl) rfl) ?_
  unfold Bridge.clearFlags
  exact .of_slots fun _ => rfl

theorem clearAlerts_passes (a : Vector Word 8) (g : Settings) (b : Bridge) :
    (clearAlerts a g b).Passes g b :=
  .withSlot fun n => (Unmoved.clearFlags g b n _ _).keeps.answer _

theorem clearErrorLog_passes (a : Vector Word 8) (g : Settings) (b : Bridge) :
    (clearErrorLog a g b).Passes g b := by
  have h : Unmoved g b { b with log := ErrorLog.reset } :=
    .of_slots (fun _ => rfl) (hl := ⟨Nat.zero_le _, Nat.zero_le _⟩)
  exact h.keeps.answer _

theorem get_map {α β : Type} {k : Nat} (f : α → β) (v : Vector α k) (i : Fin k) :
    (v.map f).get i = f (v.get i) := Vector.getElem_map f i.isLt

theorem OrtWord.account_reclaimed (w : OrtWord) :
    w.reclaimed.status.account = w.status.account ∨ w.reclaimed.status.account = none := by
  unfold OrtWord.reclaimed
  split
  · exact .inr rfl
  · exact .inl rfl
  · exact .inl rfl

theorem reclaimLost_passes (a : Vector Word 8) (g : Settings) (b : Bridge) :
    (reclaimLost a g b).Passes g b := by
  have accounts : AccountsLe b { b with ort := b.ort.map OrtWord.reclaimed } := fun i => by
    simp only [Bridge.status, get_map]
    exact OrtWord.account_reclaimed _
  have h : Unmoved g b { b with ort := b.ort.map OrtWord.reclaimed } :=
    .of_slots (fun _ => rfl) (ha := accounts.pooled g)
  exact h.keeps.answer _

/-! ### The cells (spec/10, R188, R189) -/

/-- The law of the cells, of the management unit alone. -/
def Mgmt.Agrees (m : Mgmt) : Prop :=
  m.queue.Nodup ∧ (∀ k : CellId, k ∈ m.queue ↔ inProgress (m.cells.get k) = true) ∧
    (∀ k : CellId, inProgress (m.cells.get k) = true →
      (m.cells.get k).status = .done ∧ (m.cells.get k).allClear = false ∧
        (m.cells.get k).results = noResults) ∧
    m.collisions ≤ 65535

theorem cellLaw_iff (s : State) : CellLaw s ↔ s.mgmt.Agrees := Iff.rfl

theorem Mgmt.cells_setCell (m : Mgmt) (k j : CellId) (c : Cell) :
    (m.setCell k c).cells.get j = if j = k then c else m.cells.get j := by
  split
  · rename_i e; rw [e, Mgmt.cells_setCell_self]
  · rename_i e; rw [Mgmt.cells_setCell_ne _ _ e]

/-- A new cell that shows as the old one did, but for its request words and its echo. -/
theorem Mgmt.Agrees.storeWord {m : Mgmt} (h : m.Agrees) (w : DwordWrite) : (m.storeWord w).Agrees := by
  obtain ⟨nodup, queued, shows, collisions⟩ := h
  have progress : ∀ k, inProgress ((m.storeWord w).cells.get k) = inProgress (m.cells.get k) := by
    intro k
    unfold Mgmt.storeWord
    rw [Mgmt.cells_setCell]
    split
    · rename_i e; rw [e]; rfl
    · rfl
  refine ⟨nodup, fun k => (queued k).trans (by rw [progress]), fun k hk => ?_, collisions⟩
  rw [progress] at hk
  unfold Mgmt.storeWord
  rw [Mgmt.cells_setCell]
  split
  · rename_i e; rw [← e]; exact shows k hk
  · exact shows k hk

/-- A cell that is not IN-PROGRESS is submitted and joins the queue. -/
theorem Mgmt.Agrees.submit {m : Mgmt} (h : m.Agrees) {k : CellId}
    (hk : inProgress (m.cells.get k) = false) (c : Cell) :
    Mgmt.Agrees { m.setCell k c.submitted with queue := m.queue ++ [k] } := by
  obtain ⟨nodup, queued, shows, collisions⟩ := h
  have out : k ∉ m.queue := fun e => by rw [(queued k).1 e] at hk; cases hk
  have cell : ∀ j, ({ m.setCell k c.submitted with queue := m.queue ++ [k] } : Mgmt).cells.get j
      = if j = k then c.submitted else m.cells.get j := fun j => Mgmt.cells_setCell m k j _
  refine ⟨?_, fun j => ?_, fun j hj => ?_, collisions⟩
  · rw [List.nodup_append]
    refine ⟨nodup, List.nodup_singleton k, fun x hx y hy => ?_⟩
    rintro rfl
    exact out (List.mem_singleton.1 hy ▸ hx)
  · rw [cell, List.mem_append, List.mem_singleton]
    split
    · rename_i e; exact iff_of_true (.inr e) rfl
    · rename_i e; exact (or_iff_left e).trans (queued j)
  · rw [cell] at hj ⊢
    split at hj
    · rename_i e; rw [if_pos e]; exact ⟨rfl, rfl, rfl⟩
    · rename_i e; rw [if_neg e]; exact shows j hj

theorem Mgmt.Agrees.submitWord {m : Mgmt} (h : m.Agrees) (w : DwordWrite) : (m.submitWord w).Agrees := by
  unfold Mgmt.submitWord
  dsimp only
  split
  · obtain ⟨nodup, queued, shows, -⟩ := h
    exact ⟨nodup, queued, shows, satAdd_countTop_le _ _⟩
  · rename_i e; exact h.submit (by simp [inProgress, e]) _
  · rename_i e; exact h.submit (by simp [inProgress, e]) _

theorem Mgmt.Agrees.foldl {f : Mgmt → DwordWrite → Mgmt}
    (hf : ∀ m w, Mgmt.Agrees m → Mgmt.Agrees (f m w)) (ws : List DwordWrite) {m : Mgmt} (h : m.Agrees) :
    (ws.foldl f m).Agrees := by
  induction ws generalizing m with
  | nil => exact h
  | cons w rest ih => exact ih (hf m w h)

theorem Mgmt.Agrees.writeAll {m : Mgmt} (h : m.Agrees) (ws : List DwordWrite) :
    (m.writeAll ws).Agrees :=
  .foldl (fun _ w k => k.submitWord w) _ (.foldl (fun _ w k => k.storeWord w) _ h)

/-- The head cell completes and leaves the queue. -/
theorem Mgmt.Agrees.complete {m : Mgmt} (h : m.Agrees) {k : CellId} {rest : List CellId}
    (hq : m.queue = k :: rest) (a : Vector Word 8) (status : CmdStatus) (allClear : Bool)
    (results : Vector Word 7) : (m.complete k a status allClear results).Agrees := by
  obtain ⟨nodup, queued, shows, collisions⟩ := h
  rw [hq, List.nodup_cons] at nodup
  have queue : (m.complete k a status allClear results).queue = rest := by
    simp [Mgmt.complete, hq]
  have progress : ∀ j, inProgress ((m.complete k a status allClear results).cells.get j)
      = if j = k then false else inProgress (m.cells.get j) := fun j => by
    by_cases e : j = k
    · simp [Mgmt.complete, Mgmt.setCell, e, inProgress]
    · unfold Mgmt.complete
      rw [if_neg e]
      exact congrArg inProgress (Mgmt.cells_setCell_ne m _ e)
  refine ⟨by rw [queue]; exact nodup.2, fun j => ?_, fun j hj => ?_, collisions⟩
  · rw [queue, progress]
    split
    · rename_i e; exact iff_of_false (e ▸ nodup.1) nofun
    · rename_i e
      rw [← queued j, hq, List.mem_cons]
      exact (or_iff_right e).symm
  · rw [progress] at hj
    split at hj
    · cases hj
    · rename_i e
      have same : (m.complete k a status allClear results).cells.get j = m.cells.get j :=
        Mgmt.cells_setCell_ne m _ e
      rw [same]
      exact shows j hj

theorem State.finish_agrees {s : State} {k : CellId} {a : Vector Word 8}
    (hk : s.mgmt.headCell = some (k, a)) (x : Answer) (h : s.mgmt.Agrees) :
    (s.finish k a x).mgmt.Agrees := by
  obtain ⟨rest, hq, -⟩ := Mgmt.headCell_eq hk
  cases x <;> exact h.complete hq _ _ _ _

theorem State.process_agrees {s t : State} {op : Nat}
    {command : Vector Word 8 → Settings → Bridge → Answer} (ht : s.process op command = .next t)
    (h : s.mgmt.Agrees) : t.mgmt.Agrees := by
  rcases State.process_next ht with rfl | ⟨k, a, hk, -, rfl⟩
  · exact h
  · exact State.finish_agrees hk _ h

theorem Mgmt.reset_cell (k : CellId) : Mgmt.reset.cells.get k = Cell.reset :=
  Vector.getElem_replicate k.isLt

theorem Mgmt.agrees_reset : Mgmt.reset.Agrees := by
  refine ⟨List.nodup_nil, fun k => ?_, fun k hk => ?_, Nat.zero_le _⟩
  · rw [Mgmt.reset_cell]; exact iff_of_false nofun nofun
  · rw [Mgmt.reset_cell] at hk; cases hk

end Sys2Proof.Machine
end

section
/-! PROOFS. The two resets; every step keeps every law of the state (O7 to O16). -/

namespace Sys2Proof.Machine

open Sys2Proof Sys2Proof.Safety

/-! ### Power-on reset -/

/-- A bridge whose slots are as in `b` but for the change starts of their inputs. -/
structure SensesOnly (b c : Bridge) : Prop where
  frame : ∃ slots, c = { b with slots := slots }
  slot : ∀ n, ∃ start, c.slot n = { b.slot n with changeStart := start }

theorem SensesOnly.refl (b : Bridge) : SensesOnly b b :=
  ⟨⟨b.slots, rfl⟩, fun n => ⟨(b.slot n).changeStart, rfl⟩⟩

theorem SensesOnly.trans {b c d : Bridge} (h : SensesOnly b c) (k : SensesOnly c d) :
    SensesOnly b d where
  frame := by
    obtain ⟨x, hx⟩ := h.frame
    obtain ⟨y, hy⟩ := k.frame
    exact ⟨y, by rw [hy, hx]⟩
  slot := fun n => by
    obtain ⟨x, hx⟩ := h.slot n
    obtain ⟨y, hy⟩ := k.slot n
    exact ⟨y, by rw [hy, hx]⟩

theorem SensesOnly.sense (b : Bridge) (g : Settings) (n : SlotId) (line : InputLine) :
    SensesOnly b (b.sense g n line) := by
  unfold Bridge.sense
  refine ⟨⟨_, rfl⟩, fun m => ?_⟩
  dsimp only
  rw [Bridge.slot_modSlot]
  split
  · rename_i e; rw [e]; exact ⟨_, rfl⟩
  · exact ⟨(b.slot m).changeStart, rfl⟩

theorem SensesOnly.senseSlot (b : Bridge) (g : Settings) (n : SlotId) :
    SensesOnly b (b.senseSlot g n) :=
  ((SensesOnly.sense b g n .prsnt).trans (.sense _ g n .pwrgd)).trans (.sense _ g n .attn)

theorem SensesOnly.senseAll (b : Bridge) (g : Settings) : SensesOnly b (b.senseAll g) := by
  unfold Bridge.senseAll
  generalize allSlots = l
  induction l generalizing b with
  | nil => exact .refl b
  | cons n rest ih => exact (SensesOnly.senseSlot b g n).trans (ih _)

theorem Bridge.slot_powerOn (b : Bridge) (n : SlotId) :
    b.powerOn.slot n = { Slot.reset with pins := (b.slot n).pins } :=
  get_map Slot.powerOn b.slots n

theorem Bridge.status_powerOn (b : Bridge) (i : BridgeTag) : b.powerOn.status i = .free :=
  congrArg OrtWord.status (get_map OrtWord.powerOn b.ort i)

/-- A slot after power-on reset, but for its pins and its change starts, is as at reset. -/
theorem Bridge.slot_powerOn_senseAll (b : Bridge) (g : Settings) (n : SlotId) :
    ∃ start, (b.powerOn.senseAll g).slot n
      = { Slot.reset with pins := (b.slot n).pins, changeStart := start } := by
  obtain ⟨start, h⟩ := (SensesOnly.senseAll b.powerOn g).slot n
  exact ⟨start, by rw [h, Bridge.slot_powerOn]⟩

/-- Every law of the bridge holds where the queues are empty, the counters 0, the entries FREE and each slot as at reset
in what the laws name. -/
structure AtReset (b : Bridge) : Prop where
  upIngress : b.upIngress = []
  bridgeQueue : b.bridgeQueue = []
  inrush : b.inrush = []
  powerQueue : b.powerQueue = []
  qualQueue : b.qualQueue = []
  run : b.run = none
  unrouted : b.unrouted = 0
  unexpected : b.unexpected = 0
  log : b.log = ErrorLog.reset
  status : ∀ i, b.status i = .free
  slot : ∀ n, ∃ pins start,
    b.slot n = { Slot.reset with pins := pins, changeStart := start }

theorem AtReset.powerOn (b : Bridge) (g : Settings) : AtReset (b.powerOn.senseAll g) := by
  have slot := b.slot_powerOn_senseAll g
  obtain ⟨slots, e⟩ := (SensesOnly.senseAll b.powerOn g).frame
  have status : ∀ i, (b.powerOn.senseAll g).status i = .free := fun i => by
    rw [e]; exact b.status_powerOn i
  constructor
  case status => exact status
  case slot => exact fun n => ⟨_, slot n⟩
  all_goals rw [e]; rfl

theorem AtReset.reset : AtReset Bridge.reset where
  upIngress := rfl
  bridgeQueue := rfl
  inrush := rfl
  powerQueue := rfl
  qualQueue := rfl
  run := rfl
  unrouted := rfl
  unexpected := rfl
  log := rfl
  status := fun i => congrArg OrtWord.status
    (Vector.getElem_replicate i.isLt : Bridge.reset.ort.get i = { status := .free, flips := 0, stuck := 0 })
  slot := fun n => ⟨_, _, (Vector.getElem_replicate n.isLt : Bridge.reset.slot n = Slot.reset)⟩

theorem counted_slotReset : SlotCounted Slot.reset := by
  refine ⟨?_, Nat.zero_le _⟩
  unfold FaultLaw
  decide

section AtReset

variable {b : Bridge} (h : AtReset b)

include h

theorem AtReset.view (n : SlotId) : (b.slot n).view = Slot.reset.view := by
  obtain ⟨_, _, e⟩ := h.slot n
  rw [e]
  rfl

theorem AtReset.stage (n : SlotId) : (b.slot n).stage = .empty := congrArg SeqView.stage (h.view n)

theorem AtReset.roomy : Roomy b := by
  refine ⟨by rw [h.upIngress]; exact Nat.zero_le _, by rw [h.bridgeQueue]; exact Nat.zero_le _,
    by rw [h.inrush]; exact Nat.zero_le _, fun n => ?_⟩
  obtain ⟨_, _, e⟩ := h.slot n
  rw [e]
  exact ⟨Nat.zero_le _, Nat.zero_le _, Nat.zero_le _⟩

theorem AtReset.counted : Counted b := by
  refine ⟨by rw [h.unrouted]; exact Nat.zero_le _, by rw [h.unexpected]; exact Nat.zero_le _,
    by rw [h.log]; exact Nat.zero_le _, by rw [h.log]; exact Nat.zero_le _, fun n => ?_⟩
  obtain ⟨_, _, e⟩ := h.slot n
  rw [e]
  exact counted_slotReset

theorem AtReset.shadowed (g : Settings) : Shadowed g b := fun n => by
  have none : ∀ m, (b.slot m).shadow = [] := fun m => by
    obtain ⟨_, _, e⟩ := h.slot m
    rw [e]
    rfl
  simp [none]

theorem AtReset.pooled (g : Settings) : Pooled g b := by
  have zero : ∀ n, b.inUseCount n = 0 := fun n => by
    unfold Bridge.inUseCount
    simp [h.status, EntryStatus.account]
  unfold Pooled Bridge.poolUse
  simp [zero, sumSlots]

theorem AtReset.queued : Queued b := by
  refine ⟨by rw [h.powerQueue]; exact List.nodup_nil, by rw [h.qualQueue]; exact List.nodup_nil,
    fun n => ?_⟩
  unfold Coupled served
  rw [h.powerQueue, h.qualQueue, h.run, h.stage]
  refine ⟨iff_of_false nofun nofun, iff_of_false (fun e => e.elim nofun nofun) nofun,
    fun e => nomatch e.1⟩

theorem AtReset.powered (n : SlotId) : (b.slot n).view.Powered := by
  rw [h.view]; exact ⟨rfl, nofun⟩

theorem AtReset.present (n : SlotId) : (b.slot n).view.Present := by
  rw [h.view]; exact iff_of_true rfl rfl

theorem AtReset.attempted (top : Nat) (n : SlotId) : (b.slot n).view.Attempted top := by
  rw [h.view]; exact ⟨Nat.zero_le _, fun _ => rfl⟩

end AtReset

theorem Settings.window_reset (i : Fin 48) : Settings.reset.windows.get i = none :=
  Vector.getElem_replicate i.isLt

theorem Settings.lawful_reset : Settings.reset.Lawful := by
  refine ⟨⟨fun i w h => ?_, fun i j v w _ h _ => ?_⟩, ⟨fun n h => ?_, fun m n _ => ?_⟩, fun n => ?_, ?_,
    by unfold PartLaw; decide, rfl⟩
  · rw [Settings.window_reset] at h; cases h
  · rw [Settings.window_reset] at h; cases h
  · rw [Settings.slot_reset] at h; cases h
  · rw [Settings.slot_reset, Settings.slot_reset]; rfl
  · unfold Settings.timing Settings.policy
    rw [Settings.slot_reset]
    unfold TimingLaw PolicyLaw ScriptLaw
    decide
  · unfold Settings.policy sumSlots
    simp only [Settings.slot_reset]
    decide

theorem AtReset.passes {c : Bridge} (h : AtReset c) (g : Settings) (b : Bridge) :
    Passes g b Settings.reset c where
  settings := fun _ => Settings.lawful_reset
  rooms := fun _ => h.roomy
  counters := fun _ => h.counted
  shadow := fun _ _ => h.shadowed _
  pool := fun _ _ => h.pooled _
  queues := fun _ => h.queued
  power := fun _ => h.powered
  presence := fun _ _ => h.present
  attempts := fun _ _ n => h.attempted _ n

/-! ### Upstream reset (spec/04, R101) -/

/-- The record with the attempt counter at 0. -/
def SeqView.cleared (v : SeqView) : SeqView := { v with attempts := 0 }

/-- The record of a slot after an upstream reset. -/
def SeqView.upstreamReset (v : SeqView) (escalation : Nat) (now : Time) : SeqView :=
  match v.stage with
  | .empty => v
  | .off => v
  | .parked => v
  | .powering _ => v.cleared
  | .linking _ => v.cleared.resetting escalation now
  | .qualifying => v.cleared.resetting escalation now
  | .restoring _ => v.cleared.resetting escalation now
  | .admitted => v.cleared.resetting escalation now
  | .fenced => v.cleared.resetting escalation now
  | .resetting _ _ => v.cleared.resetting escalation now

theorem Moved.clearRecovery (g : Settings) (b : Bridge) (n : SlotId) :
    Moved g n b (b.clearRecovery n) (b.slot n).view.cleared :=
  Moved.modSlot (Calm.modSlot_of_same rfl rfl rfl rfl rfl rfl)

theorem Moved.resetSlot (g : Settings) (b : Bridge) (n : SlotId) :
    Moved g n b (Bridge.resetSlot g b n)
      ((b.slot n).view.upstreamReset (g.policy n).escalation b.now) := by
  have cleared := Moved.clearRecovery g b n
  have reset := cleared.then (f := fun v => v.resetting (g.policy n).escalation b.now)
    (.enterResetting g _ n)
  have hv : (b.slot n).view.stage = (b.slot n).stage := rfl
  unfold Bridge.resetSlot SeqView.upstreamReset
  rw [hv]
  cases (b.slot n).stage with
  | empty => exact (Unmoved.refl g b).moved n
  | off => exact (Unmoved.refl g b).moved n
  | parked => exact (Unmoved.refl g b).moved n
  | powering p => exact cleared
  | _ => exact reset

/-- A pass over some slots, each moved by itself. -/
theorem foldl_moved {g : Settings} {f : Bridge → SlotId → Bridge} {φ : SlotId → SeqView → Time → SeqView}
    (h : ∀ b n, Moved g n b (f b n) (φ n (b.slot n).view b.now)) {l : List SlotId} (hl : l.Nodup)
    (b : Bridge) :
    Calm g b (l.foldl f b) ∧ (l.foldl f b).now = b.now ∧
      ∀ m, ((l.foldl f b).slot m).view = if m ∈ l then φ m (b.slot m).view b.now else (b.slot m).view := by
  induction l generalizing b with
  | nil => exact ⟨.refl g b, rfl, fun m => rfl⟩
  | cons n rest ih =>
    rw [List.nodup_cons] at hl
    obtain ⟨calm, now, views⟩ := ih hl.2 (f b n)
    have first := h b n
    refine ⟨first.toCalm.trans calm, now.trans first.now, fun m => ?_⟩
    rw [List.foldl_cons, views m, first.now]
    by_cases e : m = n
    · subst e
      simp [hl.1, first.self]
    · simp [e, first.others m e]

theorem Bridge.slot_emptied (b : Bridge) (n : SlotId) :
    b.emptied.slot n = (b.slot n).upstreamReset := get_map Slot.upstreamReset b.slots n

theorem Bridge.status_emptied (b : Bridge) (i : BridgeTag) :
    b.emptied.status i = if (b.status i).isInUse then .free else b.status i := by
  have e : b.emptied.status i = (b.ort.get i).upstreamReset.status :=
    congrArg OrtWord.status (get_map OrtWord.upstreamReset b.ort i)
  rw [e, Bridge.status]
  unfold OrtWord.upstreamReset
  split <;> rename_i h <;> rw [h] <;> rfl

theorem Stores.emptied (g : Settings) (b : Bridge) : Stores g b b.emptied where
  rooms := fun ⟨_, _, h3, h4⟩ => ⟨Nat.zero_le _, Nat.zero_le _, h3, fun n => by
    rw [Bridge.slot_emptied]; exact ⟨(h4 n).1, (h4 n).2.1, Nat.zero_le _⟩⟩
  counters := fun ⟨h1, h2, h3, h4, h5⟩ => ⟨h1, h2, h3, h4, fun n => by
    rw [Bridge.slot_emptied]; exact h5 n⟩
  shadow := fun _ n => by
    have none : ∀ m, (b.emptied.slot m).shadow = [] := fun m => by
      rw [Bridge.slot_emptied]; rfl
    simp [none]
  pool := AccountsLe.pooled g fun i => by
    rw [Bridge.status_emptied]
    split
    · exact .inr rfl
    · exact .inl rfl

/-- What an upstream reset leaves of the laws: each sequencer's record, and the queues of slots. -/
theorem Bridge.upstreamReset_views (b : Bridge) (g : Settings) :
    Stores g b (b.upstreamReset g) ∧ (b.upstreamReset g).powerQueue = b.powerQueue ∧
      (b.upstreamReset g).qualQueue = [] ∧ served (b.upstreamReset g) = none ∧
      ∀ n, ((b.upstreamReset g).slot n).view
        = (b.slot n).view.upstreamReset (g.policy n).escalation b.now := by
  obtain ⟨calm, now, views⟩ := foldl_moved (g := g) (f := Bridge.resetSlot g)
    (φ := fun n v t => v.upstreamReset (g.policy n).escalation t) (fun c n => .resetSlot g c n)
    (l := allSlots) (by decide) b.emptied
  refine ⟨(Stores.emptied g b).trans calm.toStores, calm.powerQueue, calm.qualQueue, calm.served,
    fun n => ?_⟩
  refine (views n).trans ?_
  rw [if_pos (mem_allSlots n), Bridge.slot_emptied]
  rfl

/-- The record after an upstream reset keeps the laws of its slot. -/
theorem SeqView.Kept.upstreamReset (top k : Nat) (t : Time) (v : SeqView) :
    SeqView.Kept top v (v.upstreamReset k t) := by
  have reset : ∀ h : v.stage ≠ .empty, SeqView.Kept top v (v.cleared.resetting k t) :=
    fun h => .of_plain rfl h rfl (fun _ => SeqView.resetting_powered _ _ _) fun ht _ => ht
  unfold SeqView.upstreamReset
  split
  case h_4 => exact ⟨id, id, fun _ _ => ⟨Nat.zero_le _, fun _ => rfl⟩⟩
  case h_1 => exact .refl _ _
  case h_2 => exact .refl _ _
  case h_3 => exact .refl _ _
  all_goals
    rename_i e
    exact reset (by rw [e]; nofun)

theorem SeqView.upstreamReset_queued (v : SeqView) (k : Nat) (t : Time) :
    (v.upstreamReset k t).stage = .powering .queued ↔ v.stage = .powering .queued := by
  obtain ⟨stage, attempts, pwren, watch, present⟩ := v
  cases stage <;> simp [SeqView.upstreamReset, SeqView.cleared, SeqView.resetting]

theorem SeqView.upstreamReset_not_qualifying (v : SeqView) (k : Nat) (t : Time) :
    (v.upstreamReset k t).stage ≠ .qualifying := by
  obtain ⟨stage, attempts, pwren, watch, present⟩ := v
  cases stage <;> simp [SeqView.upstreamReset, SeqView.cleared, SeqView.resetting]

theorem Settings.lawful_upstreamReset {g : Settings} (h : g.Lawful) : g.upstreamReset.Lawful := by
  obtain ⟨windows, buses, slots, sum, part, -⟩ := h
  exact ⟨windows, buses, slots, sum, part, rfl⟩

/-- An upstream reset keeps every law of the bridge. -/
theorem Keeps.upstreamReset (b : Bridge) (g : Settings) : Keeps g b (b.upstreamReset g) := by
  obtain ⟨stores, power, qual, run, views⟩ := b.upstreamReset_views g
  have kept : ∀ n, SeqView.Kept (g.policy n).maxAttempts (b.slot n).view
      ((b.upstreamReset g).slot n).view := fun n => by
    rw [views n]; exact .upstreamReset _ _ _ _
  have stage : ∀ n, ((b.upstreamReset g).slot n).stage
      = ((b.slot n).view.upstreamReset (g.policy n).escalation b.now).stage := fun n =>
    congrArg SeqView.stage (views n)
  exact
    { toStores := stores
      queues := fun ⟨h1, _, h3⟩ => by
        refine ⟨by rw [power]; exact h1, by rw [qual]; exact List.nodup_nil, fun n => ?_⟩
        unfold Coupled
        rw [power, qual, run, stage, SeqView.upstreamReset_queued]
        exact ⟨(h3 n).1, iff_of_false (fun e => e.elim nofun nofun)
          (SeqView.upstreamReset_not_qualifying _ _ _), fun e => nomatch e.1⟩
      power := fun h n => (kept n).power (h n)
      presence := fun _ h n => (kept n).presence (h n)
      attempts := fun ht h n => (kept n).attempts (ht n) (h n) }

/-! ### Every command and every step -/

/-- A claimed configuration write changes the header and answers the head. -/
theorem execMgmtCfgWrite_passes {s t : State} (h : execMgmtCfgWrite s = .next t) :
    Passes s.settings s.bridge t.settings t.bridge ∧ t.mgmt = s.mgmt := by
  have same : ∀ {u : State}, (.next s : Host.Outcome State Fault Refusal) = .next u →
      Passes s.settings s.bridge u.settings u.bridge ∧ u.mgmt = s.mgmt := by
    rintro u ⟨⟩
    exact ⟨.refl _ _, rfl⟩
  unfold execMgmtCfgWrite at h
  split at h
  · split at h
    · split at h
      · rename_i hr
        cases h
        exact ⟨(Unmoved.answerHead _ hr _).keeps.passes_of_policy id fun _ => rfl, rfl⟩
      · exact same h
    · exact same h
  · exact same h

theorem execCellSubmit_passes {s t : State} (h : execCellSubmit s = .next t) :
    Passes s.settings s.bridge t.settings t.bridge ∧ (s.mgmt.Agrees → t.mgmt.Agrees) := by
  unfold execCellSubmit at h
  split at h
  · split at h
    · cases h
      exact ⟨(Unmoved.popUpstream _ _).keeps.passes, fun k => k.writeAll _⟩
    · cases h; exact ⟨.refl _ _, id⟩
  · cases h; exact ⟨.refl _ _, id⟩

theorem execApertureWrite_passes {s t : State} (h : execApertureWrite s = .next t) :
    Passes s.settings s.bridge t.settings t.bridge ∧ (s.mgmt.Agrees → t.mgmt.Agrees) := by
  unfold execApertureWrite at h
  split at h
  · split at h
    · cases h; exact ⟨.refl _ _, id⟩
    · cases h
      exact ⟨(Unmoved.popUpstream _ _).keeps.passes, fun k => k.writeAll _⟩
  · split at h
    · cases h
      exact ⟨((Unmoved.popUpstream _ _).trans (.countUnrouted _ _)).keeps.passes, id⟩
    · cases h; exact ⟨.refl _ _, id⟩

theorem execBadOpcode_passes {s t : State} (h : execBadOpcode s = .next t) :
    Passes s.settings s.bridge t.settings t.bridge ∧ (s.mgmt.Agrees → t.mgmt.Agrees) := by
  unfold execBadOpcode at h
  split at h
  · rename_i hk
    split at h
    · cases h; exact ⟨.refl _ _, id⟩
    · cases h; exact ⟨.refl _ _, State.finish_agrees hk _⟩
  · cases h; exact ⟨.refl _ _, id⟩

/-- A command of the management unit keeps every law when its answer does. -/
theorem process_keeps_laws {s t : State} {op : Nat}
    {command : Vector Word 8 → Settings → Bridge → Answer}
    (h : ∀ a g b, (command a g b).Passes g b) (ht : s.process op command = .next t) :
    Passes s.settings s.bridge t.settings t.bridge ∧ (s.mgmt.Agrees → t.mgmt.Agrees) :=
  ⟨State.process_passes (fun a => h a _ _) ht, State.process_agrees ht⟩

/-- Every command keeps every law. -/
theorem exec_keeps_laws {c : Instr} {s t : State} (ht : exec c s = .next t) :
    Passes s.settings s.bridge t.settings t.bridge ∧ (s.mgmt.Agrees → t.mgmt.Agrees) := by
  by_cases hc : bridgeCommand c = true
  · obtain ⟨b, e, h⟩ := exec_bridgeCommand hc s
    rw [e] at ht
    cases ht
    exact ⟨h.passes, id⟩
  · cases c with
    | powerOnReset => cases ht; exact ⟨(AtReset.powerOn _ _).passes _ _, fun _ => Mgmt.agrees_reset⟩
    | upstreamReset =>
      cases ht
      refine ⟨?_, fun _ => Mgmt.agrees_reset⟩
      have k := Keeps.upstreamReset s.bridge s.settings.upstreamReset
      exact
        { settings := Settings.lawful_upstreamReset
          rooms := k.rooms
          counters := k.counters
          shadow := fun _ => k.shadow
          pool := fun _ => k.pool
          queues := k.queues
          power := k.power
          presence := k.presence
          attempts := fun hg => k.attempts hg.one_le_maxAttempts }
    | mgmtCfgWrite =>
      have ⟨h, e⟩ := execMgmtCfgWrite_passes ht
      exact ⟨h, by rw [e]; exact id⟩
    | cellSubmit => exact execCellSubmit_passes ht
    | apertureWrite => exact execApertureWrite_passes ht
    | setWindow => exact process_keeps_laws setWindow_passes ht
    | clearWindow => exact process_keeps_laws clearWindow_passes ht
    | setBusRange => exact process_keeps_laws setBusRange_passes ht
    | setSlotTiming => exact process_keeps_laws setSlotTiming_passes ht
    | setSlotPolicy => exact process_keeps_laws setSlotPolicy_passes ht
    | setPartPolicy => exact process_keeps_laws setPartPolicy_passes ht
    | setSideband => exact process_keeps_laws setSideband_passes ht
    | loadScriptStep => exact process_keeps_laws loadScriptStep_passes ht
    | setScript => exact process_keeps_laws setScript_passes ht
    | setExclusion => exact process_keeps_laws setExclusion_passes ht
    | powerOn => exact process_keeps_laws powerOn_passes ht
    | powerOff => exact process_keeps_laws powerOff_passes ht
    | fence => exact process_keeps_laws fence_passes ht
    | recover => exact process_keeps_laws recover_passes ht
    | readSlot => exact process_keeps_laws readSlot_passes ht
    | readEntry => exact process_keeps_laws readEntry_passes ht
    | readShadow => exact process_keeps_laws readShadow_passes ht
    | deleteShadowRecord => exact process_keeps_laws deleteShadowRecord_passes ht
    | clearShadow => exact process_keeps_laws clearShadow_passes ht
    | clearFaults => exact process_keeps_laws clearFaults_passes ht
    | clearAlerts => exact process_keeps_laws clearAlerts_passes ht
    | readErrorLog => exact process_keeps_laws readErrorLog_passes ht
    | clearErrorLog => exact process_keeps_laws clearErrorLog_passes ht
    | reclaimLost => exact process_keeps_laws reclaimLost_passes ht
    | badOpcode => exact execBadOpcode_passes ht
    | _ => exact absurd rfl hc

/-- Every step keeps every law. -/
theorem step_keeps_laws {s t : State} (ht : step s = .next t) :
    Passes s.settings s.bridge t.settings t.bridge ∧ (s.mgmt.Agrees → t.mgmt.Agrees) := by
  rcases hp : s.pending with _ | ⟨c, rest⟩
  · rw [step_idle hp] at ht
    obtain ⟨b, pending, e, h⟩ := idle_keeps s
    rw [e] at ht
    cases ht
    exact ⟨h.passes, id⟩
  · rw [step_front hp] at ht
    exact exec_keeps_laws (s := { s with pending := rest }) ht

/-- Settles O7: what a step passes on includes the law of the settings. -/
theorem stepKeepsSettingsLaw : Obligations.StepKeepsSettingsLaw :=
  fun _ _ h ht => (step_keeps_laws ht).1.settings h

/-- Settles O8: the Management Queue loses only the cell that completes, and gains only a cell submitted. -/
theorem stepKeepsCellLaw : Obligations.StepKeepsCellLaw :=
  fun _ _ h ht => (step_keeps_laws ht).2 h

/-- Settles O9: what a step passes on includes the law of the rooms. -/
theorem stepKeepsRoomLaw : Obligations.StepKeepsRoomLaw :=
  fun _ _ h ht => (step_keeps_laws ht).1.rooms h

/-- Settles O10: what a step passes on includes the law of the counters. -/
theorem stepKeepsCounterLaw : Obligations.StepKeepsCounterLaw :=
  fun _ _ h ht => (step_keeps_laws ht).1.counters h

/-- Settles O11: every move of a sequencer leaves PWREN as the state entered asks. -/
theorem stepKeepsPowerLineLaw : Obligations.StepKeepsPowerLineLaw :=
  fun _ _ h ht => (step_keeps_laws ht).1.power h

/-- Settles O12: a slot leaves EMPTY only with presence, and enters it only with its loss. -/
theorem stepKeepsPresenceLaw : Obligations.StepKeepsPresenceLaw :=
  fun _ _ ⟨queues, present⟩ ht =>
    have k := (step_keeps_laws ht).1
    ⟨k.queues queues, k.presence queues present⟩

/-- Settles O13: a slot joins a queue as it enters the queue's state, and leaves it with the state. -/
theorem stepKeepsSlotQueueLaw : Obligations.StepKeepsSlotQueueLaw :=
  fun _ _ h ht => (step_keeps_laws ht).1.queues h

/-- Settles O14: a record joins a list only under a new key and a free number, below the limit. -/
theorem stepKeepsShadowLaw : Obligations.StepKeepsShadowLaw :=
  fun _ _ ⟨settings, lists⟩ ht =>
    have k := (step_keeps_laws ht).1
    ⟨k.settings settings, k.shadow settings lists⟩

/-- Settles O15: an attempt is counted only below the maximum, and a new maximum cuts the counter. -/
theorem stepKeepsAttemptLaw : Obligations.StepKeepsAttemptLaw :=
  fun _ _ ⟨settings, attempts⟩ ht =>
    have k := (step_keeps_laws ht).1
    ⟨k.settings settings, k.attempts settings attempts⟩

/-- Settles O16: an entry is allocated only while it is available to its account (spec/02, R28). -/
theorem stepKeepsPoolLaw : Obligations.StepKeepsPoolLaw :=
  fun _ _ ⟨settings, pool⟩ ht =>
    have k := (step_keeps_laws ht).1
    ⟨k.settings settings, k.pool settings pool⟩

/-- Settles O6: at reset the queues are empty, the counters 0, and every slot EMPTY. -/
theorem lawsHoldAtReset : Obligations.LawsHoldAtReset :=
  have h := AtReset.reset
  ⟨Settings.lawful_reset, Mgmt.agrees_reset, h.roomy, h.counted, h.powered, ⟨h.queued, h.present⟩, h.queued,
    ⟨Settings.lawful_reset, h.shadowed _⟩, ⟨Settings.lawful_reset, fun n => h.attempted _ n⟩,
    Settings.lawful_reset, h.pooled _⟩

/-- Settles O1: the front of the queue is the command that `step` runs. -/
theorem stepRunsFrontCommand : Obligations.StepRunsFrontCommand := fun _ _ _ h => step_front h

/-- Settles O3: power-on reset writes the bridge anew, and the inputs looked at change their change starts alone. -/
theorem powerOnResetLeavesReset : Obligations.PowerOnResetLeavesReset := fun s => by
  have slot := s.bridge.slot_powerOn_senseAll Settings.reset
  have status := (AtReset.powerOn s.bridge Settings.reset).status
  obtain ⟨slots, e⟩ := (SensesOnly.senseAll s.bridge.powerOn Settings.reset).frame
  rw [e] at slot status
  refine ⟨_, rfl, rfl, rfl, rfl, ?_⟩
  rw [e]
  exact ⟨rfl, rfl, rfl, rfl, rfl, rfl, rfl, rfl, rfl, rfl, rfl, rfl, rfl, rfl, rfl, rfl, rfl, rfl, rfl,
    status, slot⟩

end Sys2Proof.Machine
end

section
/-! PROOFS. The frame of the commands on the bridge (O17), acceptance (O18), and a step with no command waiting (O2). -/

namespace Sys2Proof.Machine

open Sys2Proof Sys2Proof.Safety

/-- Settles O17: each of these commands answers a state with another bridge alone; a change of one slot writes one place
of the vector of slots. -/
theorem frameOfBridgeCommands : Obligations.FrameOfBridgeCommands := by
  refine ⟨fun c s h => ?_, fun b n f => ?_⟩
  · obtain ⟨b, e, -⟩ := exec_bridgeCommand h s
    exact ⟨b, e⟩
  · exact ⟨b.slot_modSlot_self n f, fun m hm => b.slot_modSlot_ne f hm, rfl⟩

/-! ### Acts on the bridge -/

/-- An act of a command gives the state with the bridge it names. -/
theorem State.act_eq_of {s : State} {f : Bridge → Settings → Bridge} {b : Bridge}
    (h : f s.bridge s.settings = b) : s.act f = .next (onBridge s b) := by
  rw [State.act_eq, h]
  rfl

theorem State.act_unchanged {s : State} {f : Bridge → Settings → Bridge}
    (h : f s.bridge s.settings = s.bridge) : s.act f = .next s := State.act_eq_of h

theorem State.actSettled_eq_of {s : State} {f : Bridge → Settings → Bridge} {b : Bridge}
    (h : f s.bridge s.settings = b) : s.actSettled f = .next (onBridge s (b.settle s.settings)) :=
  State.act_eq_of (f := fun b g => (f b g).settle g) (congrArg (·.settle s.settings) h)

/-- Settles O18: the guard of each acceptance is the room of its queue. -/
theorem acceptanceQueuesWithRoute : Obligations.AcceptanceQueuesWithRoute := by
  refine fun s n t => ⟨fun h => ?_, fun h => ?_, fun h => ?_, fun h => ?_⟩
  · exact State.act_eq_of (f := fun b g => b.acceptHost g t) (if_pos h)
  · exact State.act_unchanged (f := fun b g => b.acceptHost g t) (if_neg (Nat.not_lt.2 h))
  · exact State.act_eq_of (f := fun b g => b.acceptCard g n t) (if_pos h)
  · exact State.act_unchanged (f := fun b g => b.acceptCard g n t) (if_neg (Nat.not_lt.2 h))

/-! ### A step with no command waiting (log 2) -/

theorem Bridge.tick_now (b : Bridge) : b.tick.now = b.now + 1 :=
  (Unmoved.strikeNext Settings.reset { b with now := b.now + 1 }).now

theorem Bridge.noteStall_now (b : Bridge) (g : Settings) : (b.noteStall g).now = b.now :=
  (Unmoved.noteStall g b g).now

theorem State.idle_of_due {s : State} (h : (s.bridge.noteStall s.settings).due s.settings ≠ []) :
    s.idle = { s with
      bridge := s.bridge.noteStall s.settings
      pending := (s.bridge.noteStall s.settings).due s.settings } := by
  unfold State.idle
  dsimp only
  split
  · rename_i e; exact absurd e h
  · rename_i e; rw [e]

theorem State.idle_of_not_due {s : State} (h : (s.bridge.noteStall s.settings).due s.settings = []) :
    s.idle = { s with
      bridge := (s.bridge.noteStall s.settings).tick
      pending := (s.bridge.noteStall s.settings).tick.examinations } := by
  unfold State.idle
  dsimp only
  rw [h]

theorem idleStep : Parts.IdleStep := fun s hp => by
  refine ⟨fun h => ?_, fun h => ?_, s.bridge.noteStall_now s.settings, ?_⟩
  · rw [step_idle hp, State.idle_of_due h]
  · rw [step_idle hp, State.idle_of_not_due h]
  · rw [Bridge.tick_now, Bridge.noteStall_now]

/-! ### What is due -/

section Due

variable (b : Bridge) (g : Settings) (n : SlotId)

theorem Bridge.quietDue_iff :
    b.quietDue g n = true ↔ 0 < (b.slot n).suspicion ∧
      reached b.now ((b.slot n).quietRef + msec g.part.quietInterval) = true := by
  simp [Bridge.quietDue]

theorem Bridge.sequenceDue_iff :
    b.sequenceDue g n = true ↔ ∃ grant start, (b.slot n).stage = .powering (.hold grant start) ∧
      reached b.now (start + msec (g.timing n).resetHold) = true := by
  unfold Bridge.sequenceDue
  split
  · rename_i h; simp [h]
  · rename_i h
    exact iff_of_false nofun fun ⟨x, y, e, _⟩ => h x y e

theorem Stage.awaitGrant_iff (x : Stage) (t : Time) :
    x.awaitGrant = some t ↔ x = .powering (.awaitPwrgd t) :=
  ⟨Stage.awaitGrant_eq_some, fun h => by rw [h]; rfl⟩

theorem Bridge.powerTimeoutDue_iff :
    b.powerTimeoutDue g n = true ↔ ∃ grant, (b.slot n).stage = .powering (.awaitPwrgd grant) ∧
      reached b.now (grant + msec (g.timing n).powerGoodTimeout) = true := by
  simp only [← Stage.awaitGrant_iff]
  unfold Bridge.powerTimeoutDue
  cases (b.slot n).stage.awaitGrant <;> simp

theorem Bridge.warmHoldDue_iff :
    b.warmHoldDue g n = true ↔ ∃ start, (b.slot n).stage = .resetting .warmHold start ∧
      reached b.now (start + msec (g.timing n).resetHold) = true := by
  unfold Bridge.warmHoldDue
  split
  · rename_i h; simp [h]
  · rename_i h
    exact iff_of_false nofun fun ⟨x, e, _⟩ => h x e

theorem Bridge.offTimeDue_iff :
    b.offTimeDue g n = true ↔ ∃ start, (b.slot n).stage = .resetting .offWait start ∧
      reached b.now (start + msec (g.timing n).offTime) = true := by
  unfold Bridge.offTimeDue
  split
  · rename_i h; simp [h]
  · rename_i h
    exact iff_of_false nofun fun ⟨x, e, _⟩ => h x e

theorem Bridge.linkTimeoutDue_iff :
    b.linkTimeoutDue g n = true ↔ ∃ start, (b.slot n).stage = .linking start ∧
      reached b.now (start + msec (g.timing n).linkTimeout) = true := by
  unfold Bridge.linkTimeoutDue
  split
  · rename_i h; simp [h]
  · rename_i h
    exact iff_of_false nofun fun ⟨x, e, _⟩ => h x e

/-- The present half of a blink ends its length after it began. -/
theorem Slot.halfEnd_eq_some (s : Slot) (t : Time) :
    s.halfEnd = some t ↔ ∃ half start, s.stage.indPattern = .blink half ∧ s.ind.since = some start ∧
      start + msec half = t := by
  unfold Slot.halfEnd
  split
  · rename_i half start h1 h2
    rw [h1, h2]
    constructor
    · intro h; cases h; exact ⟨half, start, rfl, rfl, rfl⟩
    · rintro ⟨_, _, ⟨⟩, ⟨⟩, h⟩; rw [h]
  · rename_i h
    exact iff_of_false nofun fun ⟨half, start, h1, h2, _⟩ => h half start h1 h2

theorem Bridge.blinkDue_eq_some (t : Time) :
    b.blinkDue n = some t ↔ (b.slot n).halfEnd = some t ∧ reached b.now t = true := by
  unfold Bridge.blinkDue
  cases (b.slot n).halfEnd with
  | none => simp
  | some e =>
    by_cases h : reached b.now e = true
    · simp only [h, if_true, Option.some.injEq]
      exact ⟨fun k => ⟨k, k ▸ h⟩, And.left⟩
    · simp only [h]
      exact iff_of_false nofun fun ⟨k, r⟩ => h (Option.some.inj k ▸ r)

theorem Bridge.blinkDue_isSome :
    (b.blinkDue n).isSome = true ↔ ∃ half start, (b.slot n).stage.indPattern = .blink half ∧
      (b.slot n).ind.since = some start ∧ reached b.now (start + msec half) = true := by
  simp only [Option.isSome_iff_exists, Bridge.blinkDue_eq_some, Slot.halfEnd_eq_some]
  exact ⟨fun ⟨_, ⟨half, start, h1, h2, e⟩, h3⟩ => ⟨half, start, h1, h2, e ▸ h3⟩,
    fun ⟨half, start, h1, h2, h3⟩ => ⟨_, ⟨half, start, h1, h2, rfl⟩, h3⟩⟩

theorem Stage.replay_iff (x : Stage) (r : Replay) : x.replay = some r ↔ x = .restoring r :=
  ⟨Stage.replay_eq_some, fun h => by rw [h]; rfl⟩

theorem Bridge.replayIssuing_iff (r : Replay) (t : Time) :
    b.replayIssuing n = some (r, t) ↔ (b.slot n).stage = .restoring r ∧ r.activity = .issueWait t := by
  rw [← Stage.replay_iff]
  unfold Bridge.replayIssuing
  cases (b.slot n).stage.replay with
  | none => simp
  | some x =>
    dsimp only
    split
    · rename_i t' h
      simp only [Option.some.injEq, Prod.mk.injEq]
      constructor
      · rintro ⟨rfl, rfl⟩; exact ⟨rfl, h⟩
      · rintro ⟨rfl, k⟩; rw [h] at k; cases k; exact ⟨rfl, rfl⟩
    · rename_i h
      exact iff_of_false nofun fun ⟨e, k⟩ => by cases e; exact h _ k

theorem Bridge.replayIssueDue_isSome :
    (b.replayIssueDue g n).isSome = true ↔ ∃ r ready, (b.slot n).stage = .restoring r ∧
      r.activity = .issueWait ready ∧ reached b.now (ready + g.slotBudget n) = true := by
  simp only [← and_assoc, ← Bridge.replayIssuing_iff]
  unfold Bridge.replayIssueDue
  rcases b.replayIssuing n with _ | ⟨x, t⟩ <;> simp

theorem Bridge.replayRetryDue_isSome :
    (b.replayRetryDue n).isSome = true ↔ ∃ r resume, (b.slot n).stage = .restoring r ∧
      r.activity = .retryWait resume ∧ reached b.now resume = true := by
  simp only [← Stage.replay_iff]
  unfold Bridge.replayRetryDue
  cases (b.slot n).stage.replay with
  | none => simp
  | some r => cases h : r.activity <;> simp [h]

theorem Bridge.grantDue_isSome :
    (b.grantDue g).isSome = true ↔ b.powerQueue ≠ [] ∧ b.grantsInWindow g < g.part.inrushCount := by
  unfold Bridge.grantDue
  cases b.powerQueue <;> simp

theorem Bridge.directDue_iff :
    b.directDue g = true ↔ ∃ d a, b.direct = some d ∧ d.reply = .card a ∧
      reached b.now (d.since + g.slotBudget a) = true := by
  unfold Bridge.directDue
  cases b.direct with
  | none => simp
  | some d => cases h : d.reply <;> simp [h]

theorem Bridge.stallDue_isSome :
    (b.stallDue g).isSome = true ↔ ∃ st m, b.stall = some st ∧ b.headWaitsOn g = some m ∧
      reached b.now (st.start + msec g.part.stallLimit) = true := by
  unfold Bridge.stallDue
  cases b.stall <;> cases b.headWaitsOn g <;> simp

/-- The activity of the run, when the engine serves a slot. -/
theorem Bridge.scriptIssueDue_isSome :
    (b.scriptIssueDue g).isSome = true ↔ ∃ r ready, b.run = some r ∧ r.activity = .issueWait ready ∧
      reached b.now (ready + g.slotBudget r.slot) = true := by
  unfold Bridge.scriptIssueDue
  cases b.run with
  | none => simp
  | some r => cases h : r.activity <;> simp [h]

theorem Bridge.scriptRetryDue_isSome :
    b.scriptRetryDue.isSome = true ↔ ∃ r resume, b.run = some r ∧ r.activity = .retryWait resume ∧
      reached b.now resume = true := by
  unfold Bridge.scriptRetryDue
  cases b.run with
  | none => simp
  | some r => cases h : r.activity <;> simp [h]

theorem Bridge.scriptWaitDue_isSome :
    b.scriptWaitDue.isSome = true ↔ ∃ r resume, b.run = some r ∧ r.activity = .pause resume ∧
      reached b.now resume = true := by
  unfold Bridge.scriptWaitDue
  cases b.run with
  | none => simp
  | some r => cases h : r.activity <;> simp [h]

theorem Bridge.pwrgdReported_rise :
    b.pwrgdReported n true = true ↔ ∃ grant, (b.slot n).stage = .powering (.awaitPwrgd grant) := by
  simp [Bridge.pwrgdReported, Option.isSome_iff_exists, Stage.awaitGrant_iff]

variable (c : Instr)

/-- The changes of slot `n`'s inputs that are due. -/
theorem Bridge.mem_dueInputs :
    c ∈ b.dueInputs g n ↔
      (b.lineDue g n .prsnt = some true ∧ c = .debouncedPresence n) ∨
      (b.lineDue g n .prsnt = some false ∧ c = .debouncedPresenceLoss n) ∨
      (b.lineDue g n .attn = some true ∧ c = .attentionPress n) ∨
      (b.lineDue g n .attn = some false ∧ c = .attentionRelease n) ∨
      ((b.lineDue g n .pwrgd = some true ∧ b.pwrgdReported n true = true) ∧ c = .powerGoodTaken n) ∨
      ((b.lineDue g n .pwrgd = some false ∧ b.pwrgdReported n false = true) ∧ c = .powerGoodLoss n) ∨
      (((b.lineDue g n .pwrgd = some true ∧ b.pwrgdReported n true = false) ∨
        (b.lineDue g n .pwrgd = some false ∧ b.pwrgdReported n false = false)) ∧
        c = .unwatchedPwrgdChange n) := by
  simp only [Bridge.dueInputs, List.mem_append, mem_dueIf, decide_eq_true_eq, or_assoc]
  rcases b.lineDue g n .pwrgd with _ | level
  · simp
  · cases level
    · cases h : b.pwrgdReported n false <;> simp
    · cases h : b.pwrgdReported n true <;> simp

/-- The timers of slot `n` that are due. -/
theorem Bridge.mem_dueTimers :
    c ∈ b.dueTimers g n ↔
      (b.quietDue g n = true ∧ c = .quietDecrement n) ∨
      (b.sequenceDue g n = true ∧ c = .sequenceComplete n) ∨
      (b.powerTimeoutDue g n = true ∧ c = .powerGoodTimeout n) ∨
      (b.warmHoldDue g n = true ∧ c = .warmHoldEnd n) ∨
      (b.offTimeDue g n = true ∧ c = .offTimeEnd n) ∨
      ((b.blinkDue n).isSome = true ∧ c = .indBlinkToggle n) ∨
      (b.linkTimeoutDue g n = true ∧ c = .linkTimeout n) ∨
      ((b.replayIssueDue g n).isSome = true ∧ c = .replayIssueTimeout n) ∨
      ((b.replayRetryDue n).isSome = true ∧ c = .replayRetryResume n) := by
  simp only [Bridge.dueTimers, List.mem_append, mem_dueIf, or_assoc]

/-- The timers of the part that are due. -/
theorem Bridge.mem_duePart :
    c ∈ b.duePart g ↔
      (b.inrush.any b.grantStale = true ∧ c = .inrushHistoryExpiry) ∨
      ((b.grantDue g).isSome = true ∧ c = .powerGrant) ∨
      (b.directDue g = true ∧ c = .directItemTimeout) ∨
      ((b.stallDue g).isSome = true ∧ c = .headStall) ∨
      ((b.scriptIssueDue g).isSome = true ∧ c = .scriptIssueTimeout) ∨
      (b.scriptRetryDue.isSome = true ∧ c = .scriptRetryResume) ∨
      (b.scriptWaitDue.isSome = true ∧ c = .scriptWaitEnd) := by
  simp only [Bridge.duePart, List.mem_append, mem_dueIf, or_assoc]

theorem Bridge.mem_due :
    c ∈ b.due g ↔ (∃ n, c ∈ b.dueInputs g n ∨ c ∈ b.dueTimers g n) ∨ c ∈ b.duePart g := by
  simp [Bridge.due, mem_allSlots]

end Due

theorem dueCommands : Parts.DueCommands := fun b g c => by
  dsimp only
  simp only [Bridge.mem_due, Bridge.mem_dueInputs, Bridge.mem_dueTimers, Bridge.mem_duePart]
  cases c with
  | unwatchedPwrgdChange n =>
    simp only [← Bool.not_eq_true, Bridge.pwrgdReported_rise]
    simp [Bridge.pwrgdReported]
  | powerGoodTaken n => simp [Bridge.pwrgdReported_rise]
  | powerGoodLoss n => simp [Bridge.pwrgdReported]
  | quietDecrement n => simp [Bridge.quietDue_iff]
  | sequenceComplete n => simp [Bridge.sequenceDue_iff]
  | powerGoodTimeout n => simp [Bridge.powerTimeoutDue_iff]
  | warmHoldEnd n => simp [Bridge.warmHoldDue_iff]
  | offTimeEnd n => simp [Bridge.offTimeDue_iff]
  | indBlinkToggle n => simp [Bridge.blinkDue_isSome]
  | linkTimeout n => simp [Bridge.linkTimeoutDue_iff]
  | replayIssueTimeout n => simp [Bridge.replayIssueDue_isSome]
  | replayRetryResume n => simp [Bridge.replayRetryDue_isSome]
  | inrushHistoryExpiry => simp [Bridge.grantStale]
  | powerGrant => simp [Bridge.grantDue_isSome, Bridge.grantsInWindow]
  | directItemTimeout => simp [Bridge.directDue_iff]
  | headStall => simp [Bridge.stallDue_isSome]
  | scriptIssueTimeout => simp [Bridge.scriptIssueDue_isSome]
  | scriptRetryResume => simp [Bridge.scriptRetryDue_isSome]
  | scriptWaitEnd => simp [Bridge.scriptWaitDue_isSome]
  | _ => simp

/-! ### Examinations and the microsecond -/

/-- The list of what a function gives for the members of another, one at most for each. -/
theorem flatMap_eq_filterMap {α β : Type} {f : α → List β} {k : α → Option β}
    (h : ∀ x, f x = (k x).toList) (l : List α) : l.flatMap f = l.filterMap k := by
  induction l with
  | nil => rfl
  | cons x rest ih =>
    rw [List.flatMap_cons, List.filterMap_cons, ih, h]
    cases k x <;> rfl

theorem entriesExamined : Parts.EntriesExamined := fun b => by
  refine flatMap_eq_filterMap (fun i => ?_) _
  unfold Bridge.examination
  cases h : b.status i with
  | free => rfl
  | lost a => rfl
  | inUse a r => cases hp : r.phase <;> simp [dueIf, EntryStatus.isOpen, EntryStatus.isHeld, EntryStatus.isInUse, hp]

theorem timePasses : Parts.TimePasses := fun b => by
  refine ⟨fun h => ?_, fun u rest h => ?_⟩
  · unfold Bridge.tick Bridge.strikeNext
    dsimp only
    rw [h]
  · have tick : b.tick = Bridge.strike { b with
        now := b.now + 1
        env := { b.env with upsets := rest } } u := by
      unfold Bridge.tick Bridge.strikeNext
      dsimp only
      rw [h]
    rw [tick]
    cases u with
    | ortFlip i bits => rfl
    | ortStuck i bits => rfl
    | ortMisread i r corrected =>
      unfold Bridge.strike Bridge.upsetWord OrtWord.misread
      have status : b.status i = (b.ort.get i).status := rfl
      dsimp only
      rw [status]
      cases hs : (b.ort.get i).status <;> cases corrected <;> rfl
    | shadowFlip k bits => rfl
    | shadowStuck k bits => rfl
    | shadowMisread k union value corrected => cases corrected <;> rfl

/-- Settles O2: what is due is listed by its conditions, and an upset writes the word it names. -/
theorem idleStepQueuesDueOrTicks : Obligations.IdleStepQueuesDueOrTicks :=
  ⟨idleStep, dueCommands, entriesExamined, timePasses⟩

end Sys2Proof.Machine
end

section
/-! PROOFS. What an upstream reset leaves (O5). Once the ORT is reset no entry is IN-USE and no item is
listed, so the entry to RESETTING changes its own slot alone (spec/04, R101). -/

namespace Sys2Proof.Machine

open Sys2Proof Sys2Proof.Safety

/-- No entry is IN-USE, no item is listed and the direct item is free. -/
structure NothingHeld (b : Bridge) : Prop where
  status : ∀ i, (b.status i).isInUse = false
  workList : b.workList = []
  direct : b.direct = none

/-- Between `b` and `c` slot `n` and the free choices alone change. -/
structure SlotOnly (n : SlotId) (b c : Bridge) : Prop where
  frame : ∃ slots env, c = { b with slots := slots, env := env }
  others : ∀ m, m ≠ n → c.slot m = b.slot m

theorem SlotOnly.refl (n : SlotId) (b : Bridge) : SlotOnly n b b := ⟨⟨b.slots, b.env, rfl⟩, fun _ _ => rfl⟩

theorem SlotOnly.trans {n : SlotId} {b c d : Bridge} (h : SlotOnly n b c) (k : SlotOnly n c d) :
    SlotOnly n b d where
  frame := by
    obtain ⟨x, y, hc⟩ := h.frame
    obtain ⟨z, w, hd⟩ := k.frame
    exact ⟨z, w, by rw [hd, hc]⟩
  others := fun m hm => (k.others m hm).trans (h.others m hm)

theorem SlotOnly.modSlot (b : Bridge) (n : SlotId) (f : Slot → Slot) : SlotOnly n b (b.modSlot n f) :=
  ⟨⟨_, b.env, rfl⟩, fun _ hm => b.slot_modSlot_ne f hm⟩

theorem SlotOnly.nothingHeld {n : SlotId} {b c : Bridge} (h : SlotOnly n b c) (k : NothingHeld b) :
    NothingHeld c := by
  obtain ⟨x, y, e⟩ := h.frame
  rw [e]
  exact ⟨k.status, k.workList, k.direct⟩

theorem SlotOnly.now {n : SlotId} {b c : Bridge} (h : SlotOnly n b c) : c.now = b.now := by
  obtain ⟨x, y, e⟩ := h.frame
  rw [e]

/-- A search finds nothing to read. -/
theorem NothingHeld.search {b : Bridge} (h : NothingHeld b) (g : Settings)
    (act : BridgeTag → EntryRecord → Bridge → Bridge) : b.search g act = b.drawSearch := by
  have tags : b.inUseTags = [] := List.filter_eq_nil_iff.2 fun i _ => by rw [h.status i]; nofun
  have order : b.searchOrder = [] := by
    unfold Bridge.searchOrder
    split
    · exact tags
    · rw [h.status, tags]; rfl
  unfold Bridge.search
  rw [order]
  rfl

theorem NothingHeld.removeItemsToward {b : Bridge} (h : NothingHeld b) (g : Settings) (n : SlotId) :
    b.removeItemsToward g n = b := by
  unfold Bridge.removeItemsToward
  rw [h.workList, h.direct]
  cases b
  cases h.workList
  cases h.direct
  rfl

theorem SlotOnly.emptyPortQueues (b : Bridge) (n : SlotId) : SlotOnly n b (b.emptyPortQueues n) := by
  unfold Bridge.emptyPortQueues Bridge.countDiscarded Bridge.modFault
  exact (SlotOnly.modSlot b n _).trans (.modSlot _ n _)

/-- The entry actions of a state with SRST asserted, where nothing is held. -/
theorem NothingHeld.srstEntry {b : Bridge} (h : NothingHeld b) (g : Settings) (n : SlotId) :
    b.srstEntry g n = (b.emptyPortQueues n).drawSearch := by
  have empty := (SlotOnly.emptyPortQueues b n).nothingHeld h
  unfold Bridge.srstEntry
  rw [empty.search]
  have drawn : NothingHeld (b.emptyPortQueues n).drawSearch :=
    ⟨empty.status, empty.workList, empty.direct⟩
  exact drawn.removeItemsToward g n

theorem Bridge.slot_emptyPortQueues (b : Bridge) (n : SlotId) :
    ∃ fault, (b.emptyPortQueues n).slot n
      = { b.slot n with ingress := [], egress := [], fault := fault } := by
  unfold Bridge.emptyPortQueues Bridge.countDiscarded Bridge.modFault
  dsimp only
  rw [Bridge.slot_modSlot_self, Bridge.slot_modSlot_self]
  exact ⟨_, rfl⟩

/-- A slot after its entry to RESETTING: `warm` says which reset phase it enters. -/
def Slot.resetting (s : Slot) (warm : Bool) (now : Time) (fault : FaultRecord) (ind : Indicator) : Slot :=
  { s with
    stage := .resetting (if warm then .warmHold else .offWait) now
    attempts := s.attempts + 1
    fault := fault
    pwren := warm
    watch := s.watch && warm
    ind := ind
    egress := []
    ingress := [] }

theorem Bridge.slot_setStage (b : Bridge) (n : SlotId) (x : Stage) :
    ∃ ind, (b.setStage n x).slot n = { b.slot n with stage := x, ind := ind } := by
  unfold Bridge.setStage
  rw [Bridge.slot_modSlot_self]
  exact ⟨_, rfl⟩

theorem SlotOnly.setStage (b : Bridge) (n : SlotId) (x : Stage) : SlotOnly n b (b.setStage n x) :=
  .modSlot b n _

/-- Entry to RESETTING where nothing is held changes the slot alone. -/
theorem NothingHeld.enterResetting {b : Bridge} (h : NothingHeld b) (g : Settings) (n : SlotId) :
    SlotOnly n b (b.enterResetting g n) ∧
      ∃ fault ind, (b.enterResetting g n).slot n
        = (b.slot n).resetting
            ((b.slot n).pwren && decide ((b.slot n).attempts + 1 < (g.policy n).escalation)) b.now
            fault ind := by
  have counted := SlotOnly.modSlot b n fun s => { s with attempts := (b.slot n).attempts + 1 }
  have entry := (counted.nothingHeld h).srstEntry g n
  have emptied := SlotOnly.emptyPortQueues
    (b.modSlot n fun s => { s with attempts := (b.slot n).attempts + 1 }) n
  have drawn : SlotOnly n b (((b.modSlot n fun s =>
      { s with attempts := (b.slot n).attempts + 1 }).emptyPortQueues n).drawSearch) :=
    (counted.trans emptied).trans ⟨⟨_, _, rfl⟩, fun _ _ => rfl⟩
  obtain ⟨fault, slot⟩ := Bridge.slot_emptyPortQueues
    (b.modSlot n fun s => { s with attempts := (b.slot n).attempts + 1 }) n
  rw [Bridge.slot_modSlot_self] at slot
  unfold Bridge.enterResetting
  dsimp only
  rw [entry]
  split
  · rename_i w
    have on : (b.slot n).pwren = true := (Bool.and_eq_true_iff.1 w).1
    obtain ⟨ind, e⟩ := Bridge.slot_setStage (((b.modSlot n fun s =>
      { s with attempts := (b.slot n).attempts + 1 }).emptyPortQueues n).drawSearch) n
      (.resetting .warmHold b.now)
    refine ⟨drawn.trans (.setStage _ n _), fault, ind, ?_⟩
    rw [e, Bridge.slot_drawSearch, slot, w]
    simp [Slot.resetting, on]
  · rename_i w
    have cold := Bool.eq_false_iff.2 w
    obtain ⟨ind, e⟩ := Bridge.slot_setStage ((((b.modSlot n fun s =>
      { s with attempts := (b.slot n).attempts + 1 }).emptyPortQueues n).drawSearch).pwrenOff n) n
      (.resetting .offWait b.now)
    refine ⟨(drawn.trans (.modSlot _ n _)).trans (.setStage _ n _), fault, ind, ?_⟩
    rw [e, Bridge.pwrenOff, Bridge.slot_modSlot_self, Bridge.slot_drawSearch, slot, cold]
    simp [Slot.resetting]

/-- A slot with its attempt counter at 0 and its restore flag clear. -/
def Slot.cleared (s : Slot) : Slot := { s with attempts := 0, restore := false }

/-- A slot that an upstream reset sends to RESETTING. -/
def Slot.ResetTo (s t : Slot) (escalation : Nat) (now : Time) : Prop :=
  ∃ fault ind, t = s.cleared.resetting (s.pwren && decide (1 < escalation)) now
    fault ind

/-- What the sequencer of a slot makes of the slot on an upstream reset. -/
def Slot.AfterReset (s t : Slot) (escalation : Nat) (now : Time) : Prop :=
  match s.stage with
  | .empty => t = s
  | .off => t = s
  | .parked => t = s
  | .powering _ => t = s.cleared
  | .linking _ => s.ResetTo t escalation now
  | .qualifying => s.ResetTo t escalation now
  | .restoring _ => s.ResetTo t escalation now
  | .admitted => s.ResetTo t escalation now
  | .fenced => s.ResetTo t escalation now
  | .resetting _ _ => s.ResetTo t escalation now

theorem Bridge.slot_clearRecovery (b : Bridge) (n : SlotId) :
    (b.clearRecovery n).slot n = (b.slot n).cleared :=
  b.slot_modSlot_self n _

theorem SlotOnly.clearRecovery (b : Bridge) (n : SlotId) : SlotOnly n b (b.clearRecovery n) :=
  .modSlot b n _

theorem NothingHeld.clearAndReset {b : Bridge} (h : NothingHeld b) (g : Settings) (n : SlotId) :
    SlotOnly n b ((b.clearRecovery n).enterResetting g n) ∧
      (b.slot n).ResetTo (((b.clearRecovery n).enterResetting g n).slot n) (g.policy n).escalation
        b.now := by
  have cleared := SlotOnly.clearRecovery b n
  obtain ⟨only, fault, ind, e⟩ := (cleared.nothingHeld h).enterResetting g n
  rw [Bridge.slot_clearRecovery, cleared.now] at e
  exact ⟨cleared.trans only, fault, ind, e⟩

theorem NothingHeld.resetSlot {b : Bridge} (h : NothingHeld b) (g : Settings) (n : SlotId) :
    SlotOnly n b (Bridge.resetSlot g b n) ∧
      (b.slot n).AfterReset ((Bridge.resetSlot g b n).slot n) (g.policy n).escalation b.now := by
  have reset := h.clearAndReset g n
  unfold Bridge.resetSlot Slot.AfterReset
  cases (b.slot n).stage with
  | empty => exact ⟨.refl n b, rfl⟩
  | off => exact ⟨.refl n b, rfl⟩
  | parked => exact ⟨.refl n b, rfl⟩
  | powering p => exact ⟨.clearRecovery b n, b.slot_clearRecovery n⟩
  | _ => exact reset

/-- A pass over some slots where nothing is held: each slot is changed by its own reset alone. -/
theorem NothingHeld.resetSlots {b : Bridge} (h : NothingHeld b) (g : Settings) {l : List SlotId}
    (hl : l.Nodup) :
    (∃ slots env, l.foldl (Bridge.resetSlot g) b = { b with slots := slots, env := env }) ∧
      (∀ n ∈ l, (b.slot n).AfterReset ((l.foldl (Bridge.resetSlot g) b).slot n)
        (g.policy n).escalation b.now) ∧
      ∀ n, n ∉ l → (l.foldl (Bridge.resetSlot g) b).slot n = b.slot n := by
  induction l generalizing b with
  | nil => exact ⟨⟨b.slots, b.env, rfl⟩, nofun, fun _ _ => rfl⟩
  | cons n rest ih =>
    rw [List.nodup_cons] at hl
    obtain ⟨only, slot⟩ := h.resetSlot g n
    obtain ⟨⟨x, y, e⟩, reset, kept⟩ := ih (only.nothingHeld h) hl.2
    obtain ⟨z, w, e'⟩ := only.frame
    refine ⟨⟨x, y, by rw [List.foldl_cons, e, e']⟩, fun m hm => ?_, fun m hm => ?_⟩
    · rw [List.foldl_cons]
      by_cases hn : m = n
      · subst hn
        rw [kept m hl.1]
        exact slot
      · have k := reset m ((List.mem_cons.1 hm).resolve_left hn)
        rwa [only.others m hn, only.now] at k
    · rw [List.mem_cons, not_or] at hm
      rw [List.foldl_cons, kept m hm.2, only.others m hm.1]

theorem NothingHeld.emptied (b : Bridge) : NothingHeld b.emptied where
  status := fun i => by
    rw [Bridge.status_emptied]
    split
    · rfl
    · rename_i h; exact Bool.eq_false_iff.2 h
  workList := rfl
  direct := rfl

/-- The bridge after an upstream reset: the parts emptied, and each slot by its sequencer. -/
theorem Bridge.upstreamReset_frame (b : Bridge) (g : Settings) :
    (∃ slots env, b.upstreamReset g = { b.emptied with slots := slots, env := env }) ∧
      ∀ n, (b.slot n).upstreamReset.AfterReset ((b.upstreamReset g).slot n) (g.policy n).escalation
        b.now := by
  obtain ⟨frame, reset, -⟩ := (NothingHeld.emptied b).resetSlots g (l := allSlots) (by decide)
  refine ⟨frame, fun n => ?_⟩
  have k := reset n (mem_allSlots n)
  rwa [Bridge.slot_emptied] at k

/-- What no sequencer touches on an upstream reset. -/
structure Slot.KeptByReset (s t : Slot) : Prop where
  upQueue : t.upQueue = s.upQueue
  shadow : t.shadow = s.shadow
  incomplete : t.incomplete = s.incomplete
  flags : t.flags = s.flags
  filtered : t.filtered = s.filtered
  linkUp : t.linkUp = s.linkUp
  suspicion : t.suspicion = s.suspicion
  replayResult : t.replayResult = s.replayResult
  qualResult : t.qualResult = s.qualResult

theorem Slot.ResetTo.kept {s t : Slot} {k : Nat} {now : Time} (h : s.ResetTo t k now) :
    s.KeptByReset t := by
  obtain ⟨fault, ind, e⟩ := h
  rw [e]
  exact ⟨rfl, rfl, rfl, rfl, rfl, rfl, rfl, rfl, rfl⟩

theorem Slot.AfterReset.kept {s t : Slot} {k : Nat} {now : Time} (h : s.AfterReset t k now) :
    s.KeptByReset t := by
  unfold Slot.AfterReset at h
  split at h
  case h_1 => rw [h]; exact ⟨rfl, rfl, rfl, rfl, rfl, rfl, rfl, rfl, rfl⟩
  case h_2 => rw [h]; exact ⟨rfl, rfl, rfl, rfl, rfl, rfl, rfl, rfl, rfl⟩
  case h_3 => rw [h]; exact ⟨rfl, rfl, rfl, rfl, rfl, rfl, rfl, rfl, rfl⟩
  case h_4 => rw [h]; exact ⟨rfl, rfl, rfl, rfl, rfl, rfl, rfl, rfl, rfl⟩
  all_goals exact h.kept

/-- A slot sent to RESETTING counts its first attempt, and enters WARM-HOLD under power below the escalation point. -/
theorem Slot.ResetTo.moved {s t : Slot} {k : Nat} {now : Time} (h : s.ResetTo t k now) :
    t.attempts = 1 ∧ t.restore = false ∧ t.ingress = [] ∧ t.egress = [] ∧
      if s.pwren = true ∧ 1 < k then t.stage = .resetting .warmHold now ∧ t.pwren = true
      else t.stage = .resetting .offWait now ∧ t.pwren = false := by
  obtain ⟨fault, ind, e⟩ := h
  rw [e]
  refine ⟨rfl, rfl, rfl, rfl, ?_⟩
  split
  · rename_i w
    rw [show (s.pwren && decide (1 < k)) = true by simpa using w]
    exact ⟨rfl, rfl⟩
  · rename_i w
    rw [show (s.pwren && decide (1 < k)) = false by rw [Bool.eq_false_iff]; simpa using w]
    exact ⟨rfl, rfl⟩

theorem upstreamResetEmptiesAndKeeps : Parts.UpstreamResetEmptiesAndKeeps := fun s => by
  obtain ⟨⟨slots, env, e⟩, reset⟩ := s.bridge.upstreamReset_frame s.settings.upstreamReset
  refine ⟨_, rfl, rfl, rfl, rfl, ?_⟩
  have status := s.bridge.status_emptied
  have slot := fun n => (reset n).kept
  rw [e] at slot ⊢
  exact ⟨rfl, rfl, rfl, rfl, rfl, rfl, rfl, rfl, rfl, rfl, rfl, rfl, rfl, rfl, rfl, rfl, rfl, rfl, rfl,
    status, fun n => ⟨(slot n).upQueue, (slot n).shadow, (slot n).incomplete, (slot n).flags,
      (slot n).filtered, (slot n).linkUp, (slot n).suspicion, (slot n).replayResult,
      (slot n).qualResult⟩⟩

theorem upstreamResetMovesSlots : Parts.UpstreamResetMovesSlots := fun s => by
  obtain ⟨-, reset⟩ := s.bridge.upstreamReset_frame s.settings.upstreamReset
  refine ⟨_, rfl, fun n => ?_⟩
  have h := reset n
  unfold Slot.AfterReset at h
  rw [show (s.bridge.slot n).upstreamReset.stage = (s.bridge.slot n).stage from rfl] at h
  dsimp only
  cases hs : (s.bridge.slot n).stage <;> rw [hs] at h
  case empty => rw [h]; exact ⟨hs, rfl, rfl, rfl, rfl⟩
  case off => rw [h]; exact ⟨hs, rfl, rfl, rfl, rfl⟩
  case parked => rw [h]; exact ⟨hs, rfl, rfl, rfl, rfl⟩
  case powering p => rw [h]; exact ⟨hs, rfl, rfl, rfl, rfl⟩
  all_goals exact h.moved

/-- Settles O5: each slot's sequencer acts on its own slot, since the ORT is reset before. -/
theorem upstreamResetLeaves : Obligations.UpstreamResetLeaves :=
  ⟨upstreamResetEmptiesAndKeeps, upstreamResetMovesSlots⟩

end Sys2Proof.Machine
end

section
/-! PROOFS. The routes and the grants (O19). -/

namespace Sys2Proof.Machine

open Sys2Proof Sys2Proof.Safety

/-! ### Windows that cover a range (spec/01, R5, R9, R17) -/

theorem Settings.mem_validWindows (g : Settings) (w : Window) :
    w ∈ g.validWindows ↔ ∃ i : Fin 48, g.windows.get i = some w := by
  simp only [Settings.validWindows, List.mem_filterMap, id, exists_eq_right]
  constructor
  · intro h
    obtain ⟨i, hi, e⟩ := List.getElem_of_mem h
    rw [Vector.length_toList] at hi
    exact ⟨⟨i, hi⟩, by rw [← e]; rfl⟩
  · rintro ⟨i, e⟩
    rw [← e]
    exact Vector.mem_toList_iff.2 (Vector.getElem_mem i.isLt)

theorem Window.covers_iff (w : Window) (addr length : Nat) :
    w.covers addr length = true ↔ w.base.toNat ≤ addr ∧ addr + length ≤ w.limit.toNat + 1 := by
  simp [Window.covers]

theorem Window.decodes_iff (w : Window) (n : SlotId) (answer : FenceAnswer) :
    w.decodes = some (n, answer) ↔ w.kind = .decode answer ∧ w.owner = n := by
  unfold Window.decodes
  cases w.kind <;> simp [and_comm]

/-- Two DECODE windows that cover one range of at least a byte conflict. -/
theorem Window.conflicts_of_covers {v w : Window} {x y : FenceAnswer} {addr length : Nat}
    (hv : v.kind = .decode x) (hw : w.kind = .decode y) (hl : 0 < length)
    (cv : v.covers addr length = true) (cw : w.covers addr length = true) : v.conflicts w = true := by
  rw [Window.covers_iff] at cv cw
  simp only [Window.conflicts, Window.rivals, hv, hw, Window.overlaps, Bool.true_and, Bool.and_eq_true,
    decide_eq_true_eq]
  omega

/-- The valid DECODE window that covers the range is the one found (R9). -/
theorem Settings.decodeHit_of_covers {g : Settings} (law : WindowLaw g) {i : Fin 48} {w : Window}
    {answer : FenceAnswer} {addr length : Nat} (hw : g.windows.get i = some w)
    (hk : w.kind = .decode answer) (hl : 0 < length) (hc : w.covers addr length = true) :
    g.decodeHit addr length = some (w.owner, answer) := by
  have mem : w ∈ g.validWindows.filter fun w => w.covers addr length :=
    List.mem_filter.2 ⟨(g.mem_validWindows w).2 ⟨i, hw⟩, hc⟩
  have found : (g.decodeHit addr length).isSome = true := by
    unfold Settings.decodeHit
    rw [List.findSome?_isSome_iff]
    exact ⟨w, mem, by rw [(w.decodes_iff w.owner answer).2 ⟨hk, rfl⟩]; rfl⟩
  obtain ⟨⟨n, x⟩, h⟩ := Option.isSome_iff_exists.1 found
  obtain ⟨v, hv, hd⟩ := List.exists_of_findSome?_eq_some h
  obtain ⟨hv, cv⟩ := List.mem_filter.1 hv
  obtain ⟨j, hj⟩ := (g.mem_validWindows v).1 hv
  obtain ⟨kind, owner⟩ := (v.decodes_iff n x).1 hd
  have same : i = j := by
    by_contra ne
    have k := law.2 i j w v ne hw hj
    rw [Window.conflicts_of_covers hk kind hl hc cv] at k
    cases k
  subst same
  rw [hw] at hj
  cases hj
  rw [hk] at kind
  cases kind
  rw [h, owner]

theorem Settings.decodeHit_of_not_covers {g : Settings} {addr length : Nat}
    (h : ∀ (i : Fin 48) (w : Window) (answer : FenceAnswer), g.windows.get i = some w →
      w.kind = .decode answer → ¬ w.covers addr length = true) : g.decodeHit addr length = none := by
  unfold Settings.decodeHit
  rw [List.findSome?_eq_none_iff]
  intro w hw
  obtain ⟨hw, hc⟩ := List.mem_filter.1 hw
  obtain ⟨i, hi⟩ := (g.mem_validWindows w).1 hw
  unfold Window.decodes
  split
  · rename_i answer hk
    exact absurd hc (h i w answer hi hk)
  · rfl

theorem Settings.inAperture_iff (g : Settings) (addr : Nat) :
    g.inAperture addr = true ↔ g.header.memDecode = true ∧ 4096 * g.header.basePage.toNat ≤ addr ∧
      addr ≤ 4096 * g.header.basePage.toNat + 4095 := by
  simp only [Settings.inAperture, Settings.apertureBase, Bool.and_eq_true, and_assoc]
  exact and_congr Iff.rfl (and_congr decide_eq_true_iff decide_eq_true_iff)

/-- A range of at least a byte is covered by its first and its last byte. -/
theorem Window.covers_last {w : Window} {addr length : Nat} (hl : 0 < length) :
    w.covers addr length = true ↔ w.base.toNat ≤ addr ∧ addr + length - 1 ≤ w.limit.toNat := by
  rw [Window.covers_iff]
  omega

theorem hostMemoryRoute : Parts.HostMemoryRoute := by
  intro s r addr length law hl hb g inside covers
  have route : g.hostRoute (.request r) = g.routeMemory addr.toNat length := by
    rcases hb with ⟨f, l, e⟩ | ⟨f, l, p, e⟩ <;> simp [Settings.hostRoute, e]
  have aperture : g.inAperture addr.toNat = true ↔ inside := g.inAperture_iff addr.toNat
  rw [route]
  unfold Settings.routeMemory
  refine ⟨fun h => if_pos (aperture.2 h), fun i w answer out hw hk hc => ?_, fun out none => ?_⟩
  · rw [if_neg (mt aperture.1 out),
      Settings.decodeHit_of_covers law.1 hw hk hl ((Window.covers_last hl).2 hc)]
  · rw [if_neg (mt aperture.1 out), Settings.decodeHit_of_not_covers fun i w answer hw hk hc =>
      none i w answer hw hk ((Window.covers_last hl).1 hc)]

/-! ### Bus ranges (R10) -/

theorem BusRange.holds_iff (x : BusRange) (bus : BitVec 8) :
    x.holds bus = true ↔ x.valid = true ∧ x.first.toNat ≤ bus.toNat ∧ bus.toNat ≤ x.last.toNat := by
  simp [BusRange.holds, and_assoc]

theorem BusRange.conflicts_of_holds {x y : BusRange} {bus : BitVec 8} (hx : x.holds bus = true)
    (hy : y.holds bus = true) : x.conflicts y = true := by
  rw [BusRange.holds_iff] at hx hy
  simp only [BusRange.conflicts, hx.1, hy.1, Bool.true_and, Bool.and_eq_true, decide_eq_true_eq]
  omega

theorem Settings.busOwner_of_holds {g : Settings} (law : BusLaw g) {n : SlotId} {bus : BitVec 8}
    (h : (g.slot n).busRange.holds bus = true) : g.busOwner bus = some n := by
  have found : (g.busOwner bus).isSome = true := by
    unfold Settings.busOwner
    rw [List.find?_isSome]
    exact ⟨n, mem_allSlots n, h⟩
  obtain ⟨m, hm⟩ := Option.isSome_iff_exists.1 found
  have holds : (g.slot m).busRange.holds bus = true := List.find?_some (p := fun n =>
    (g.slot n).busRange.holds bus) hm
  by_cases e : m = n
  · rw [hm, e]
  · have k := law.2 m n e
    rw [BusRange.conflicts_of_holds holds h] at k
    cases k

theorem Settings.busOwner_of_not_holds {g : Settings} {bus : BitVec 8}
    (h : ∀ n, ¬ (g.slot n).busRange.holds bus = true) : g.busOwner bus = none :=
  List.find?_eq_none.2 fun n _ => h n

theorem hostConfigRoute : Parts.HostConfigRoute := by
  intro s r law
  refine ⟨fun m e => by simp [Settings.hostRoute, e], fun t hb => ?_⟩
  intro holds claimed
  have route : s.settings.hostRoute (.request r) = s.settings.routeConfig t := by
    rcases hb with ⟨l, be, e⟩ | ⟨l, be, p, e⟩ <;> simp [Settings.hostRoute, e]
  have owner : ∀ n, (s.settings.slot n).busRange.holds t.bus = true ↔ holds n := fun n =>
    BusRange.holds_iff _ _
  have claims : s.settings.claims t = true ↔ claimed := by
    unfold Settings.claims
    simp only [claimed]
    cases s.settings.header.busNumber with
    | some bus => simp
    | none =>
      simp only [Bool.and_eq_true, decide_eq_true_eq, Option.isNone_iff_eq_none, and_assoc]
      refine and_congr_right fun _ => and_congr_right fun _ => ?_
      unfold Settings.busOwner
      rw [List.find?_eq_none]
      exact ⟨fun h n k => h n (mem_allSlots n) ((owner n).2 k), fun h n _ k => h n ((owner n).1 k)⟩
  rw [route]
  unfold Settings.routeConfig
  refine ⟨fun h => if_pos (claims.2 h), fun n out h => ?_, fun out none => ?_⟩
  · rw [if_neg (mt claims.1 out), Settings.busOwner_of_holds law.2.1 ((owner n).2 h)]
  · rw [if_neg (mt claims.1 out), Settings.busOwner_of_not_holds fun n => mt (owner n).1 (none n)]

/-! ### Grants and destinations of a card's requests (R17) -/

theorem Settings.granted_iff (g : Settings) (n : SlotId) (isRead : Bool) (addr length : Nat) :
    g.granted n isRead addr length = true ↔ ∃ (i : Fin 48) (w : Window), g.windows.get i = some w ∧
      w.grants n isRead = true ∧ w.base.toNat ≤ addr ∧ addr + length ≤ w.limit.toNat + 1 := by
  simp only [Settings.granted, List.any_eq_true, Bool.and_eq_true, Settings.mem_validWindows,
    Window.covers_iff]
  exact ⟨fun ⟨w, ⟨i, hi⟩, h⟩ => ⟨i, w, hi, h⟩, fun ⟨i, w, hi, h⟩ => ⟨w, ⟨i, hi⟩, h⟩⟩

theorem Window.grants_read (w : Window) (n : SlotId) :
    w.grants n true = true ↔
      w.owner = n ∧ (w.kind = .grant .readWrite ∨ w.kind = .grant .readOnly) := by
  unfold Window.grants
  rcases w.kind with x | x
  · simp
  · cases x <;> simp [Access.permitsRead]

theorem Window.grants_write (w : Window) (n : SlotId) :
    w.grants n false = true ↔
      w.owner = n ∧ (w.kind = .grant .readWrite ∨ w.kind = .grant .writeOnly) := by
  unfold Window.grants
  rcases w.kind with x | x
  · simp
  · cases x <;> simp [Access.permitsWrite]

theorem cardGrantOutcome : Parts.CardGrantOutcome := by
  intro g n r
  refine ⟨fun addr length f l e => ?_, fun addr length f l p e => ?_, fun t l be e => ?_, fun m e => ?_,
    fun t l be p e => ?_⟩
  · simp only [Settings.cardRoute, e, CardRoute.checked.injEq, true_and, Settings.granted_iff,
      Window.grants_read, and_assoc]
  · simp only [Settings.cardRoute, e, CardRoute.checked.injEq, true_and, Settings.granted_iff,
      Window.grants_write, and_assoc]
  · simp [Settings.cardRoute, e]
  · simp [Settings.cardRoute, e]
  · simp [Settings.cardRoute, e]

theorem cardDestination : Parts.CardDestination := by
  intro s n r addr length law hl hb g covers goes
  have route : ∀ dest, g.cardDest n addr.toNat length = dest → goes dest := by
    rintro dest rfl
    rcases hb with ⟨f, l, e⟩ | ⟨f, l, p, e⟩
    · exact ⟨g.granted n true addr.toNat length, by simp only [Settings.cardRoute, e, g]⟩
    · exact ⟨g.granted n false addr.toNat length, by simp only [Settings.cardRoute, e, g]⟩
  refine ⟨fun i w answer hw hk hc => ?_, fun none => ?_⟩
  · have hit := Settings.decodeHit_of_covers law.1 hw hk hl ((Window.covers_last hl).2 hc)
    refine ⟨fun ne => route _ ?_, fun e => route _ ?_⟩
    · simp only [Settings.cardDest, g, hit, if_neg ne]
    · simp only [Settings.cardDest, g, hit, if_pos e]
  · refine route _ ?_
    have miss : g.decodeHit addr.toNat length = Option.none :=
      Settings.decodeHit_of_not_covers fun i w answer hw hk hc =>
        none i w answer hw hk ((Window.covers_last hl).1 hc)
    simp only [Settings.cardDest, miss]

/-- Settles O19: two windows or ranges that both hold an address conflict, so the law leaves one to find. -/
theorem routesAndGrants : Obligations.RoutesAndGrants :=
  ⟨hostMemoryRoute, hostConfigRoute, cardGrantOutcome, cardDestination⟩

end Sys2Proof.Machine
end

section
/-! PROOFS. The requests at the head of the Upstream Ingress Queue (O20, O21, O22). -/

namespace Sys2Proof.Machine

open Sys2Proof Sys2Proof.Safety

/-! ### The head of a queue -/

section Heads

variable {b : Bridge} {n : SlotId}

theorem Bridge.hostHead_of_cons {r : Request} {route : HostRoute} {rest : List HostQueued}
    (h : b.upIngress = { txn := .request r, route := route } :: rest) :
    b.hostHead = some (r, route) := by
  simp [Bridge.hostHead, h]

theorem Bridge.hostHeadCompletion_of_cons {c : Completion} {route : HostRoute} {rest : List HostQueued}
    (h : b.upIngress = { txn := .completion c, route := route } :: rest) :
    b.hostHeadCompletion = some c := by
  simp [Bridge.hostHeadCompletion, h]

theorem Bridge.popUpstream_of_cons {q : HostQueued} {rest : List HostQueued}
    (h : b.upIngress = q :: rest) :
    b.popUpstream = { b with upIngress := rest, stall := none, headAnswer := none } := by
  simp [Bridge.popUpstream, h]

theorem Bridge.isAdmitted_of (h : (b.slot n).stage = .admitted) : b.isAdmitted n = true :=
  decide_eq_true h

theorem Bridge.isAdmitted_of_ne (h : (b.slot n).stage ≠ .admitted) : b.isAdmitted n = false :=
  decide_eq_false h

theorem Bridge.egressHasRoom_of (h : (b.slot n).egress.length < 32) : b.egressHasRoom n = true :=
  (egressHasRoom_iff b n).2 h

theorem Bridge.egressHasRoom_of_full (h : 32 ≤ (b.slot n).egress.length) : b.egressHasRoom n = false :=
  decide_eq_false (Nat.not_lt.2 h)

end Heads

theorem ReqBody.posted_of_asked {body : ReqBody} {asked : Asked} (h : ReqBody.asked body = some asked) :
    ReqBody.posted body = false := by
  cases body with
  | memRead => rfl
  | cfgRead => rfl
  | cfgWrite => rfl
  | memWrite => cases h
  | message => cases h
  | unknown => cases h

/-- The wait of a head on a slot is recorded when it begins, and the record stands (R24; log 16). -/
theorem Bridge.noteStall_of_waits {b : Bridge} {g : Settings} {n : SlotId}
    (h : b.headWaitsOn g = some n) :
    b.noteStall g = { b with stall := some (b.stall.getD { slot := n, start := b.now }) } := by
  unfold Bridge.noteStall
  rw [h]
  cases e : b.stall with
  | none => rfl
  | some x =>
    show b = { b with stall := some x }
    rw [← e]

/-! ### A request for an ADMITTED slot (R12) -/

section Admitted

variable {b : Bridge} {g : Settings} {r : Request} {n : SlotId} {answer : Option FenceAnswer}
  {rest : List HostQueued}

theorem Bridge.headForward_of (h : b.upIngress = { txn := .request r, route := .slot n answer } :: rest)
    (fits : ReqBody.fits r.body = true) (admitted : (b.slot n).stage = .admitted) :
    b.headForward g = b.forwardHost g r n answer := by
  simp [Bridge.headForward, Bridge.hostHead_of_cons h, fits, Bridge.isAdmitted_of admitted]

theorem Bridge.headWaitsOn_slot
    (h : b.upIngress = { txn := .request r, route := .slot n answer } :: rest) :
    b.headWaitsOn g = b.requestWaitsOn g r n := by
  simp [Bridge.headWaitsOn, h]

/-- A request for an ADMITTED slot without all it needs waits on that slot. -/
theorem Bridge.requestWaitsOn_admitted (fits : ReqBody.fits r.body = true)
    (admitted : (b.slot n).stage = .admitted)
    (lacks : 32 ≤ (b.slot n).egress.length ∨
      (ReqBody.posted r.body = false ∧ b.offeredEntry g n = none)) :
    b.requestWaitsOn g r n = some n := by
  unfold Bridge.requestWaitsOn
  rw [fits, Bridge.isAdmitted_of admitted]
  cases room : b.egressHasRoom n with
  | false => rfl
  | true =>
    rcases lacks with full | ⟨posted, none⟩
    · rw [Bridge.egressHasRoom_of_full full] at room
      cases room
    · rw [posted, none]
      rfl

/-- A host request for an ADMITTED slot that lacks room or an entry is not forwarded. -/
theorem Bridge.forwardHost_of_lacks
    (lacks : 32 ≤ (b.slot n).egress.length ∨
      (ReqBody.posted r.body = false ∧ b.offeredEntry g n = none)) :
    b.forwardHost g r n answer = b.noteStall g := by
  unfold Bridge.forwardHost
  rcases lacks with full | ⟨posted, none⟩
  · rw [Bridge.egressHasRoom_of_full full]
    rfl
  · rw [posted, none]
    split <;> rfl

end Admitted

theorem hostRequestForwarded : Parts.HostRequestForwarded := by
  intro s r n answer rest hq fits admitted room b
  have forward := Bridge.headForward_of (g := s.settings) hq fits admitted
  have popped : s.bridge.popUpstream = b := Bridge.popUpstream_of_cons hq
  refine ⟨fun posted => ?_, fun i asked ha hi => ?_⟩
  · refine State.act_eq_of (f := Bridge.headForward) ?_
    rw [forward, Bridge.forwardHost, if_pos (Bridge.egressHasRoom_of room), if_pos posted, popped]
  · refine State.act_eq_of (f := Bridge.headForward) ?_
    rw [forward, Bridge.forwardHost, if_pos (Bridge.egressHasRoom_of room),
      ReqBody.posted_of_asked ha, hi, ha]
    show s.bridge.forwardHostEntry s.settings r n answer i asked = _
    rw [Bridge.forwardHostEntry, popped]
    rfl

theorem hostRequestWaits : Parts.HostRequestWaits := by
  intro s r n answer rest hq fits admitted lacks
  refine State.act_eq_of (f := Bridge.headForward) ?_
  rw [Bridge.headForward_of hq fits admitted, Bridge.forwardHost_of_lacks lacks]
  refine Bridge.noteStall_of_waits ?_
  rw [Bridge.headWaitsOn_slot hq, Bridge.requestWaitsOn_admitted fits admitted lacks]

/-- Settles O20: with room and an entry the head is forwarded; without one of them it waits on its slot. -/
theorem hostRequestForwardedOrWaits : Obligations.HostRequestForwardedOrWaits :=
  ⟨hostRequestForwarded, hostRequestWaits,
    fun _ _ _ _ _ _ => ⟨fun _ => rfl, rfl, fun _ _ _ _ => rfl⟩⟩

/-! ### What an offered write changes (spec/07, R148) -/

/-- Between the bridges the slots, the shadow's words, the flags, the send list and the error log alone differ. -/
def ShadowOnly (b c : Bridge) : Prop :=
  ∃ slots words partFlags sendList log, c = { b with
    slots := slots
    shadowWords := words
    partFlags := partFlags
    sendList := sendList
    log := log }

theorem ShadowOnly.refl (b : Bridge) : ShadowOnly b b :=
  ⟨b.slots, b.shadowWords, b.partFlags, b.sendList, b.log, rfl⟩

theorem ShadowOnly.trans {b c d : Bridge} (h : ShadowOnly b c) (k : ShadowOnly c d) :
    ShadowOnly b d := by
  obtain ⟨_, _, _, _, _, rfl⟩ := h
  obtain ⟨_, _, _, _, _, rfl⟩ := k
  exact ⟨_, _, _, _, _, rfl⟩

theorem ShadowOnly.modSlot (b : Bridge) (n : SlotId) (f : Slot → Slot) : ShadowOnly b (b.modSlot n f) :=
  ⟨_, b.shadowWords, b.partFlags, b.sendList, b.log, rfl⟩

theorem ShadowOnly.writeShadow (b : Bridge) (k : RecordId) (u : BitVec 4) (v : Word) :
    ShadowOnly b (b.writeShadow k u v) :=
  ⟨b.slots, _, b.partFlags, b.sendList, b.log, rfl⟩

theorem ShadowOnly.noteCorrection (b : Bridge) (g : Settings) : ShadowOnly b (b.noteCorrection g) := by
  obtain ⟨_, _, _, _, e⟩ := b.noteCorrection_frame g
  exact ⟨_, b.shadowWords, _, _, _, e⟩

theorem ShadowOnly.noteUncorrectable (b : Bridge) (g : Settings) (word : LatchedWord) (n : SlotId)
    (e : ReadEvent) : ShadowOnly b (b.noteUncorrectable g word n e) := by
  obtain ⟨_, _, _, h⟩ := Bridge.raise_frame ({ b with
    log := b.log.report { word := word, slot := n, event := e, time := b.now } }) g
    (.part .eccUncorrectable)
  exact ⟨_, b.shadowWords, _, _, _, h⟩

theorem ShadowOnly.readShadow (b : Bridge) (g : Settings) (n : SlotId) (p : Nat) (x : ShadowKey)
    (e : ReadEvent) : ShadowOnly b (b.readShadow g n p x e).1 := by
  unfold Bridge.readShadow
  simp only
  split
  · exact .refl b
  · exact (ShadowOnly.writeShadow b x.number _ _).trans (.noteCorrection _ g)
  · exact ((ShadowOnly.modSlot b n _).trans (.modSlot _ n _)).trans (.noteUncorrectable _ g _ n e)

theorem ShadowOnly.newShadowRecord (b : Bridge) (n : SlotId) (function : BitVec 3) (offset : BitVec 12)
    (be : BitVec 4) (payload : Word) :
    ShadowOnly b (b.newShadowRecord n function offset be payload) := by
  unfold Bridge.newShadowRecord
  split
  · exact (ShadowOnly.writeShadow b _ _ _).trans (.modSlot _ n _)
  · exact .refl b

theorem ShadowOnly.moveIfTaken (b : Bridge) (n : SlotId) (p : Nat) (x : ShadowKey) :
    ShadowOnly b (b.moveIfTaken n p x) := by
  unfold Bridge.moveIfTaken
  split
  · split
    · exact (ShadowOnly.modSlot b n _).trans (.modSlot _ n _)
    · exact .refl b
  · exact .refl b

theorem ShadowOnly.mergeShadow (b : Bridge) (g : Settings) (n : SlotId) (p : Nat) (x : ShadowKey)
    (be : BitVec 4) (payload : Word) : ShadowOnly b (b.mergeShadow g n p x be payload) := by
  have read := ShadowOnly.readShadow b g n p x .merge
  unfold Bridge.mergeShadow
  split
  · rename_i e
    rw [e] at read
    exact (read.trans (.writeShadow _ _ _ _)).trans (.moveIfTaken _ n p x)
  · rename_i e
    rw [e] at read
    exact read.trans (.newShadowRecord _ n _ _ be payload)

theorem ShadowOnly.offerWrite (b : Bridge) (g : Settings) (n : SlotId) (bus : BitVec 8)
    (function : BitVec 3) (offset : BitVec 12) (be : BitVec 4) (payload : Word) :
    ShadowOnly b (b.offerWrite g n bus function offset be payload).1 := by
  unfold Bridge.offerWrite
  split
  · exact .refl b
  split
  · exact .refl b
  split
  · exact .refl b
  split
  · split
    · exact .mergeShadow b g n _ _ be payload
    · exact .refl b
  · split
    · exact .newShadowRecord b n function offset be payload
    · exact ShadowOnly.modSlot b n fun s => { s with incomplete := true }

theorem ShadowOnly.upIngress {b c : Bridge} (h : ShadowOnly b c) : c.upIngress = b.upIngress := by
  obtain ⟨_, _, _, _, _, rfl⟩ := h
  rfl

theorem ShadowOnly.direct {b c : Bridge} (h : ShadowOnly b c) : c.direct = b.direct := by
  obtain ⟨_, _, _, _, _, rfl⟩ := h
  rfl

theorem ShadowOnly.captureAway (b : Bridge) (g : Settings) (n : SlotId) (t : CfgTarget) (be : BitVec 4)
    (payload : List Byte) : ShadowOnly b (b.captureAway g n t be payload).1 := by
  unfold Bridge.captureAway
  split
  · exact .offerWrite b g n _ _ _ be _
  · exact .refl b

/-! ### A request for a slot that is away (R13, Table 1-5) -/

theorem Bridge.headNotAdmitted_of {b : Bridge} {g : Settings} {r : Request} {n : SlotId}
    {answer : Option FenceAnswer} {rest : List HostQueued}
    (h : b.upIngress = { txn := .request r, route := .slot n answer } :: rest)
    (fits : ReqBody.fits r.body = true) (away : (b.slot n).stage ≠ .admitted) :
    b.headNotAdmitted g = b.answerAway g r n answer := by
  simp [Bridge.headNotAdmitted, Bridge.hostHead_of_cons h, fits, Bridge.isAdmitted_of_ne away]

/-- The free direct item takes the head. -/
theorem Bridge.handHostHead_of_free {b : Bridge} (g : Settings) (r : Request) (x : StandIn)
    (counted : Option SlotId) (h : b.direct = none) :
    b.handHostHead g r x counted = b.popUpstream.occupyDirect r .host x counted := by
  simp [Bridge.handHostHead, h]

/-- Settles O21: Table 1-5, a row at a time; a write offered to the shadow leaves the head and the direct item. -/
theorem hostRequestAnsweredAway : Obligations.HostRequestAnsweredAway := by
  intro s r n answer rest hq fits away taken
  have pop : ∀ c : Bridge, c.upIngress = s.bridge.upIngress → c.popUpstream = taken c := fun c h =>
    Bridge.popUpstream_of_cons (h.trans hq)
  have acts : ∀ b, s.bridge.answerAway s.settings r n answer = b →
      exec .upstreamHeadNotAdmitted s = .next (onBridge s b) := fun b h =>
    State.act_eq_of (f := Bridge.headNotAdmitted) ((Bridge.headNotAdmitted_of hq fits away).trans h)
  refine ⟨fun addr l f e p hb => acts _ ?_, fun free addr l f e hb ha => acts _ ?_,
    fun free addr l f e hb ha => acts _ ?_, fun free t l be hb => acts _ ?_,
    fun free t l be p hb => acts _ ?_⟩
  · rw [Bridge.answerAway, hb]
    exact congrArg (Bridge.countDiscarded · n 1) (pop s.bridge rfl)
  · rw [Bridge.answerAway, hb]
    dsimp only
    rw [Bridge.handHostHead_of_free _ _ _ _ free, pop s.bridge rfl, ha]
    rfl
  · rw [Bridge.answerAway, hb]
    dsimp only
    rw [Bridge.handHostHead_of_free _ _ _ _ free, pop s.bridge rfl, ha]
    rfl
  · rw [Bridge.answerAway, hb]
    dsimp only
    rw [Bridge.handHostHead_of_free _ _ _ _ free, pop s.bridge rfl, Bridge.headConfig]
    cases s.bridge.headAnswer.getD (s.settings.policy n).configAnswer <;> rfl
  · have kept := ShadowOnly.captureAway s.bridge s.settings n t be p
    rw [Bridge.answerAway, hb]
    dsimp only
    rw [if_neg (by simp [free]),
      Bridge.handHostHead_of_free _ _ _ _ (kept.direct.trans free), pop _ kept.upIngress]
    rfl

/-! ### Requests that nobody takes (R3, R15) -/

theorem Bridge.countUnrouted_eq (b : Bridge) :
    b.countUnrouted = { b with unrouted := min (b.unrouted + 1) 65535 } := rfl

theorem Bridge.turnAwayUnrouted_of {b : Bridge} {g : Settings} {r : Request} {rest : List HostQueued}
    (h : b.upIngress = { txn := .request r, route := .unrouted } :: rest)
    (fits : ReqBody.fits r.body = true) : b.turnAwayUnrouted g = b.turnAwayHost g r := by
  simp [Bridge.turnAwayUnrouted, Bridge.hostHead_of_cons h, fits]

theorem Bridge.malformed_upstream_of {b : Bridge} {g : Settings} {r : Request} {route : HostRoute}
    {rest : List HostQueued} (h : b.upIngress = { txn := .request r, route := route } :: rest)
    (fits : ReqBody.fits r.body = false) : b.malformed g .upstream = b.turnAwayHost g r := by
  simp [Bridge.malformed, Bridge.hostHead_of_cons h, fits]

theorem hostRequestNotTaken : Parts.HostRequestNotTaken := by
  intro s r route rest c hq hc b
  have popped : s.bridge.popUpstream = b := Bridge.popUpstream_of_cons hq
  have acts : ∀ d, s.bridge.turnAwayHost s.settings r = d → exec c s = .next (onBridge s d) := by
    rintro d h
    rcases hc with ⟨rfl, rfl, fits⟩ | ⟨rfl, fits⟩
    · exact State.act_eq_of (f := Bridge.turnAwayUnrouted) ((Bridge.turnAwayUnrouted_of hq fits).trans h)
    · exact State.act_eq_of (f := fun b g => b.malformed g .upstream)
        ((Bridge.malformed_upstream_of hq fits).trans h)
  refine ⟨fun posted => acts _ ?_, fun posted free => acts _ ?_⟩
  · rw [Bridge.turnAwayHost, if_pos posted, popped, Bridge.countUnrouted_eq]
  · rw [Bridge.turnAwayHost, if_neg (by rw [posted]; exact Bool.false_ne_true),
      Bridge.handHostHead_of_free _ _ _ _ free, popped]

theorem requestForm : Parts.RequestForm := by
  refine ⟨fun addr length f l => ⟨?_, rfl, fun p => ⟨?_, rfl⟩⟩,
    fun t length be => ⟨?_, rfl, fun p => ⟨?_, rfl⟩⟩, fun m => ⟨rfl, rfl⟩, fun x => ⟨rfl, rfl⟩⟩
  · simp [ReqBody.fits, lengthFits, and_assoc]
  · simp [ReqBody.fits, lengthFits, and_assoc]
  · simp [ReqBody.fits]
  · simp [ReqBody.fits, and_assoc]

/-- Settles O22: the two commands turn the head away alike, and the form is a conjunction of tests. -/
theorem hostRequestTurnedAway : Obligations.HostRequestTurnedAway := ⟨hostRequestNotTaken, requestForm⟩

end Sys2Proof.Machine
end

section
/-! PROOFS. The completions at the head of a queue, and those of the host (O23). -/

namespace Sys2Proof.Machine

open Sys2Proof Sys2Proof.Safety

/-! ### A completion by what its tag names (spec/02, Table 2-4) -/

theorem tagFor_of_id_ne {g : Settings} {c : Completion} (h : c.id ≠ g.bridgeId) : tagFor g c = none := by
  simp [tagFor, h]

theorem tagFor_of_tag_ge {g : Settings} {c : Completion} (h : 256 ≤ c.tag.toNat) :
    tagFor g c = none := by
  simp [tagFor, Nat.not_lt.2 h]

section Match

variable {b : Bridge} {g : Settings} {side : Side} {c : Completion} {i : BridgeTag} {a : SlotId}
  {r : EntryRecord}

theorem Bridge.peekEntry_clean (hs : b.status i = .inUse a r) (hc : (b.ort.get i).outcome = .clean) :
    b.peekEntry i = some r :=
  (b.peekEntry_eq_some i r).2 ⟨⟨a, hs⟩, by rw [hc]; nofun⟩

theorem Bridge.peekEntry_of_not_inUse (h : (b.status i).isInUse = false) : b.peekEntry i = none := by
  unfold Bridge.peekEntry
  cases hs : b.status i with
  | free => rfl
  | lost a => rfl
  | inUse a r =>
    rw [hs] at h
    cases h

theorem Bridge.readEntry_of_not_inUse (h : (b.status i).isInUse = false) (e : ReadEvent) :
    b.readEntry g i e = (b, none) := by
  unfold Bridge.readEntry
  cases hs : b.status i with
  | free => rfl
  | lost a => rfl
  | inUse a r =>
    rw [hs] at h
    cases h

theorem Bridge.matchBlocked_of_no_dest (h : b.matchDest g side c = none) :
    b.matchBlocked g side c = none := by
  simp [Bridge.matchBlocked, h]

theorem Bridge.matchBlocked_of_room {d : ForwardDest} (h : b.matchDest g side c = some d)
    (room : b.destHasRoom d = true) : b.matchBlocked g side c = none := by
  simp [Bridge.matchBlocked, h, room]

theorem Bridge.matchBlocked_of_full {d : ForwardDest} (h : b.matchDest g side c = some d)
    (full : b.destHasRoom d = false) : b.matchBlocked g side c = some d := by
  simp [Bridge.matchBlocked, h, full]

theorem Bridge.matchDest_of_no_tag (h : tagFor g c = none) : b.matchDest g side c = none := by
  simp [Bridge.matchDest, h]

theorem Bridge.matchDest_of_not_inUse (ht : tagFor g c = some i) (h : (b.status i).isInUse = false) :
    b.matchDest g side c = none := by
  simp [Bridge.matchDest, ht, Bridge.peekEntry_of_not_inUse h]

/-- A completion that does not fit an OPEN entry of its side would not be forwarded. -/
theorem Bridge.matchDest_of_misfit (ht : tagFor g c = some i) (hp : b.peekEntry i = some r)
    (h : r.isOpen = true → r.target = side → r.asked.fits c = false) : b.matchDest g side c = none := by
  simp only [Bridge.matchDest, ht, hp]
  refine if_neg fun k => ?_
  simp only [Bool.and_eq_true, decide_eq_true_eq] at k
  obtain ⟨⟨ho, hs⟩, hf⟩ := k
  rw [h ho hs] at hf
  cases hf

theorem Bridge.takeMatch_of_no_tag (h : tagFor g c = none) :
    b.takeMatch g side c = b.countUnexpected side := by
  simp [Bridge.takeMatch, h]

theorem Bridge.takeMatch_of_not_inUse (ht : tagFor g c = some i) (h : (b.status i).isInUse = false) :
    b.takeMatch g side c = b.countUnexpected side := by
  simp [Bridge.takeMatch, ht, Bridge.readEntry_of_not_inUse h]

/-- A completion that names an entry IN-USE whose read is clean is taken by the record's target, phase and fit. -/
theorem Bridge.takeMatch_clean (ht : tagFor g c = some i) (hs : b.status i = .inUse a r)
    (hc : (b.ort.get i).outcome = .clean) :
    b.takeMatch g side c =
      if r.target = side then
        if r.isOpen then
          if r.asked.fits c then b.takeFit g i r c else b.takeMisfit g side
        else b.takeLate i r side c
      else b.countUnexpected side := by
  simp [Bridge.takeMatch, ht, Bridge.readEntry_clean hs hc]

theorem EntryRecord.isOpen_of {d : Time} (h : r.phase = .opened d) : r.isOpen = true := by
  simp [EntryRecord.isOpen, h]

theorem EntryRecord.isOpen_of_held (h : ∀ d, r.phase ≠ .opened d) : r.isOpen = false := by
  unfold EntryRecord.isOpen
  cases e : r.phase with
  | opened d => exact absurd e (h d)
  | stoodIn hold listed pending => rfl
  | orphaned hold => rfl

theorem Bridge.putRecord_inUse (hs : b.status i = .inUse a r) (x : EntryRecord) :
    b.putRecord i x = b.putStatus i (.inUse a x) := by
  simp [Bridge.putRecord, hs]

theorem Bridge.advanceEntry_inUse (hs : b.status i = .inUse a r) :
    b.advanceEntry i r c = match r.asked.after c with
      | none => b.freeEntry i
      | some asked => b.putStatus i (.inUse a { r with asked := asked }) := by
  unfold Bridge.advanceEntry
  cases r.asked.after c with
  | none => rfl
  | some asked => exact Bridge.putRecord_inUse hs _

theorem Bridge.takeLate_inUse (hs : b.status i = .inUse a r) :
    b.takeLate i r side c =
      let late := b.modFault (lateSlot side a) fun f => { f with late := min (f.late + 1) 65535 }
      if r.asked.lateFinishes c = true then late.releaseEntry i r else late := by
  simp only [Bridge.takeLate, hs, EntryStatus.account, satAdd, countTop]

/-- An entry whose origin is a card forwards to that card's FIFO, under the card's ID and tag. -/
theorem Bridge.takeFit_slot {q : Requester} {o : SlotId} (ho : r.origin = .slot o q) :
    b.takeFit g i r c = (b.advanceEntry i r c).pushEgress o .traffic
      (.completion (Completion.forRequester c q)) := by
  simp [Bridge.takeFit, EntryRecord.forwardDest, ho, Bridge.pushDest]

theorem EntryRecord.forwardDest_slot {q : Requester} {o : SlotId} (ho : r.origin = .slot o q) :
    r.forwardDest = some (.egress o) := by
  simp [EntryRecord.forwardDest, ho]

end Match

/-! ### The completions of the host (R16) -/

theorem Bridge.matchHost_of {b : Bridge} {g : Settings} {c : Completion} {route : HostRoute}
    {rest : List HostQueued} (h : b.upIngress = { txn := .completion c, route := route } :: rest)
    (free : b.matchBlocked g .upstream c = none) :
    b.matchHost g =
      ({ b with upIngress := rest, stall := none, headAnswer := none }).takeMatch g .upstream c := by
  simp [Bridge.matchHost, Bridge.hostHeadCompletion_of_cons h, free, Bridge.popUpstream_of_cons h]

theorem hostCompletionFits : Parts.HostCompletionFits := by
  intro s c route rest i account a q d r hq hid htag hs hc hphase horigin htarget hfits room b advanced
  have ht : tagFor s.settings c = some i := (tagFor_eq_some _ c i).2 ⟨hid, htag⟩
  have ho := EntryRecord.isOpen_of hphase
  have dest : s.bridge.matchDest s.settings .upstream c = some (.egress a) :=
    (Bridge.matchDest_of_fit ht (Bridge.peekEntry_clean hs hc) htarget ho hfits).trans
      (EntryRecord.forwardDest_slot horigin)
  have hb : b.status i = .inUse account r := hs
  refine State.actSettled_eq_of (f := Bridge.matchHost) ?_
  rw [Bridge.matchHost_of hq (Bridge.matchBlocked_of_room dest (Bridge.egressHasRoom_of room)),
    Bridge.takeMatch_clean ht hb hc, if_pos htarget, if_pos ho, if_pos hfits,
    Bridge.takeFit_slot horigin, Bridge.advanceEntry_inUse hb]
  rfl

theorem hostCompletionDropped : Parts.HostCompletionDropped := by
  intro s c route rest hq g b answers unexpected
  have acts : ∀ d, s.bridge.matchDest g .upstream c = none → b.takeMatch g .upstream c = d →
      answers d := fun d h k =>
    State.actSettled_eq_of (f := Bridge.matchHost)
      ((Bridge.matchHost_of hq (Bridge.matchBlocked_of_no_dest h)).trans k)
  have no_tag : tagFor g c = none → answers unexpected := fun h =>
    acts _ (Bridge.matchDest_of_no_tag h) (Bridge.takeMatch_of_no_tag h)
  refine ⟨fun h => no_tag (tagFor_of_id_ne h), fun _ h => no_tag (tagFor_of_tag_ge h),
    fun i hid htag => ?_⟩
  have ht : tagFor g c = some i := (tagFor_eq_some g c i).2 ⟨hid, htag⟩
  have not_inUse : (s.bridge.status i).isInUse = false → answers unexpected := fun h =>
    acts _ (Bridge.matchDest_of_not_inUse ht h) (Bridge.takeMatch_of_not_inUse (b := b) ht h)
  refine ⟨fun h => not_inUse (by rw [h]; rfl), fun a h => not_inUse (by rw [h]; rfl),
    fun a r hs hc => ?_⟩
  have misfit := Bridge.matchDest_of_misfit (side := .upstream) ht (Bridge.peekEntry_clean hs hc)
  have hb : b.status i = .inUse a r := hs
  refine ⟨fun hne => acts _ (misfit fun _ k => absurd k hne) ?_,
    fun d htarget hphase hf => acts _ (misfit fun _ _ => hf) ?_, fun htarget held => ?_⟩
  · rw [Bridge.takeMatch_clean ht hb hc, if_neg hne]
    rfl
  · rw [Bridge.takeMatch_clean ht hb hc, if_pos htarget, if_pos (EntryRecord.isOpen_of hphase),
      if_neg (by rw [hf]; exact Bool.false_ne_true)]
    rfl
  · have closed := EntryRecord.isOpen_of_held held
    refine acts _ (misfit fun k => absurd (closed.symm.trans k) Bool.false_ne_true) ?_
    rw [Bridge.takeMatch_clean ht hb hc, if_pos htarget,
      if_neg (by rw [closed]; exact Bool.false_ne_true), Bridge.takeLate_inUse hb]
    rfl

/-- Settles O23: the record that the tag names decides, by Table 2-4. -/
theorem hostCompletionForwarded : Obligations.HostCompletionForwarded :=
  ⟨hostCompletionFits, hostCompletionDropped⟩

end Sys2Proof.Machine
end

section
/-! PROOFS. Packed words and bytes: what a read of a field, a bit or a byte of a word gives. -/

namespace Sys2Proof.Machine

open Sys2Proof Sys2Proof.Safety

/-! ### Fields of a packed word -/

/-- The word of one field: the value from its lowest bit on, cut to its width. -/
def fieldWord (value lo width : Nat) : Word := BitVec.ofNat 32 (value % 2 ^ width) <<< lo

theorem Word.zero_or (w : Word) : (0 : Word) ||| w = w := BitVec.zero_or

theorem getLsbD_zero_bits (n k : Nat) : (0 : BitVec n).getLsbD k = false := BitVec.getLsbD_zero

theorem foldl_or_fields (fields : List (Nat × Nat × Nat)) (w : Word) :
    fields.foldl (fun w f => w ||| (BitVec.ofNat 32 (f.1 % 2 ^ f.2.2) <<< f.2.1)) w
      = w ||| packWord fields := by
  induction fields generalizing w with
  | nil => simp [packWord]
  | cons f fs ih =>
    have first := ih ((0 : Word) ||| (BitVec.ofNat 32 (f.1 % 2 ^ f.2.2) <<< f.2.1))
    simp only [packWord, List.foldl_cons] at first ih ⊢
    rw [ih, first, Word.zero_or, BitVec.or_assoc]

theorem packWord_cons (value lo width : Nat) (fields : List (Nat × Nat × Nat)) :
    packWord ((value, lo, width) :: fields) = fieldWord value lo width ||| packWord fields := by
  show List.foldl _ _ fields = _
  rw [foldl_or_fields]
  exact congrArg (· ||| packWord fields) (Word.zero_or _)

theorem getLsbD_fieldWord (value lo width k : Nat) :
    (fieldWord value lo width).getLsbD k
      = (decide (k < 32) && decide (lo ≤ k) && decide (k < lo + width) && value.testBit (k - lo)) := by
  simp only [fieldWord, BitVec.getLsbD_shiftLeft, BitVec.getLsbD_ofNat, Nat.testBit_mod_two_pow]
  by_cases hk : k < 32
  · by_cases hl : lo ≤ k
    · have inside : k - lo < 32 := by omega
      have width' : k - lo < width ↔ k < lo + width := by omega
      simp [hk, hl, inside, width', Nat.not_lt.2 hl]
    · simp [hk, hl, Nat.lt_of_not_le hl]
  · simp [hk]

/-- A field reads back as its value, cut to its width. -/
@[simp] theorem extract_fieldWord_same {value lo width : Nat} (h : lo + width ≤ 32) :
    (fieldWord value lo width).extractLsb' lo width = BitVec.ofNat width value := by
  refine BitVec.eq_of_getLsbD_eq fun k hk => ?_
  rw [BitVec.getLsbD_extractLsb', getLsbD_fieldWord, BitVec.getLsbD_ofNat]
  simp [hk, show lo + k < 32 by omega]

/-- A field leaves every bit outside it 0. -/
@[simp] theorem extract_fieldWord_apart {value lo width a n : Nat} (h : lo + width ≤ a ∨ a + n ≤ lo) :
    (fieldWord value lo width).extractLsb' a n = 0 := by
  refine BitVec.eq_of_getLsbD_eq fun k hk => ?_
  rw [BitVec.getLsbD_extractLsb', getLsbD_fieldWord]
  have out : ¬ (lo ≤ a + k ∧ a + k < lo + width) := by omega
  rw [getLsbD_zero_bits]
  simp only [Bool.and_eq_false_iff, decide_eq_false_iff_not]
  omega

@[simp] theorem extract_packWord_nil (a n : Nat) : (packWord []).extractLsb' a n = 0 :=
  BitVec.extractLsb'_zero

@[simp] theorem extract_packWord_cons (value lo width : Nat) (fields : List (Nat × Nat × Nat)) (a n : Nat) :
    (packWord ((value, lo, width) :: fields)).extractLsb' a n
      = (fieldWord value lo width).extractLsb' a n ||| (packWord fields).extractLsb' a n := by
  rw [packWord_cons, BitVec.extractLsb'_or]

@[simp] theorem getElem_packWord_nil {k : Nat} (h : k < 32) : (packWord [])[k] = false :=
  BitVec.getElem_zero h

@[simp] theorem getElem_packWord_cons (value lo width : Nat) (fields : List (Nat × Nat × Nat)) {k : Nat}
    (h : k < 32) :
    (packWord ((value, lo, width) :: fields))[k]
      = ((decide (lo ≤ k) && decide (k < lo + width) && value.testBit (k - lo)) || (packWord fields)[k]) := by
  have bit := getLsbD_fieldWord value lo width k
  rw [BitVec.getLsbD_eq_getElem h] at bit
  simp only [packWord_cons, BitVec.getElem_or, bit, h, decide_true, Bool.true_and]

@[simp] theorem boolNat_mod_two_eq_one (x : Bool) : boolNat x % 2 = 1 ↔ x = true := by cases x <;> decide

theorem ofNat_toNat_extract {n : Nat} (x : BitVec n) (m : Nat) : BitVec.ofNat m x.toNat = x.extractLsb' 0 m := by
  refine BitVec.eq_of_getLsbD_eq fun k hk => ?_
  rw [BitVec.getLsbD_extractLsb', BitVec.getLsbD_ofNat, Nat.zero_add]
  rfl

/-! ### Bytes of a word -/

theorem getLsbD_enableMask (be : BitVec 4) {k : Nat} (hk : k < 32) :
    (enableMask be).getLsbD k = be.getLsbD (k / 8) := by
  have all : ∀ be : BitVec 4, ∀ k : Fin 32, (enableMask be).getLsbD k = be.getLsbD (k / 8) := by decide
  exact all be ⟨k, hk⟩

/-- A bit of an enabled byte is the new word's, any other bit the old word's. -/
theorem getLsbD_mergeBytes (be : BitVec 4) (old new : Word) {k : Nat} (hk : k < 32) :
    (mergeBytes be old new).getLsbD k = if be.getLsbD (k / 8) then new.getLsbD k else old.getLsbD k := by
  simp only [mergeBytes, BitVec.getLsbD_or, BitVec.getLsbD_and, BitVec.getLsbD_not,
    getLsbD_enableMask be hk, hk]
  cases be.getLsbD (k / 8) <;> simp

theorem mergeBytes_all (old new : Word) : mergeBytes 0xF old new = new := by
  refine BitVec.eq_of_getLsbD_eq fun k hk => ?_
  have all : ∀ k : Fin 32, (0xF : BitVec 4).getLsbD (k / 8) = true := by decide
  rw [getLsbD_mergeBytes _ _ _ hk, all ⟨k, hk⟩]
  rfl

end Sys2Proof.Machine
end

section
/-! PROOFS. The management function's header (O24) and reads of the aperture (O25). -/

namespace Sys2Proof.Machine

open Sys2Proof Sys2Proof.Safety

/-! ### A request for the management function at the head -/

section Management

variable {b : Bridge} {r : Request} {rest : List HostQueued}

theorem Bridge.managementHead_of
    (h : b.upIngress = { txn := .request r, route := .management } :: rest)
    (fits : ReqBody.fits r.body = true) : b.managementHead = some r := by
  simp [Bridge.managementHead, Bridge.hostHead_of_cons h, fits]

theorem Bridge.bridgeQueueHasRoom_of (h : b.bridgeQueue.length < 64) : b.bridgeQueueHasRoom = true :=
  (bridgeQueueHasRoom_iff b).2 h

theorem Bridge.answerHead_of_cons {q : HostQueued} (h : b.upIngress = q :: rest) (c : Completion) :
    b.answerHead c = { b with
      upIngress := rest
      stall := none
      headAnswer := none
      bridgeQueue := b.bridgeQueue ++ [.completion c] } := by
  rw [Bridge.answerHead, Bridge.popUpstream_of_cons h]
  rfl

end Management

theorem CfgTarget.isOwn_iff (t : CfgTarget) :
    CfgTarget.isOwn t = true ↔ t.device = 0 ∧ t.function = 0 := by
  simp [CfgTarget.isOwn]

theorem CfgTarget.isOwn_of_not {t : CfgTarget} (h : ¬ (t.device = 0 ∧ t.function = 0)) :
    CfgTarget.isOwn t = false :=
  Bool.eq_false_iff.2 (mt (CfgTarget.isOwn_iff t).1 h)

theorem execMgmtCfgRead_of {s : State} {r : Request} {t : CfgTarget} {l : Nat} {be : BitVec 4}
    {rest : List HostQueued} (hq : s.bridge.upIngress = { txn := .request r, route := .management } :: rest)
    (fits : ReqBody.fits r.body = true) (room : s.bridge.bridgeQueue.length < 64)
    (hb : r.body = .cfgRead t l be) :
    exec .mgmtCfgRead s = .next (onBridge s (s.bridge.answerHead (s.settings.cfgReadAnswer r t))) := by
  refine State.act_eq_of (f := Bridge.mgmtCfgRead) ?_
  simp [Bridge.mgmtCfgRead, Bridge.managementHead_of hq fits, hb, Bridge.bridgeQueueHasRoom_of room]

theorem execMgmtCfgWrite_of {s : State} {r : Request} {t : CfgTarget} {l : Nat} {be : BitVec 4}
    {p : List Byte} {rest : List HostQueued}
    (hq : s.bridge.upIngress = { txn := .request r, route := .management } :: rest)
    (fits : ReqBody.fits r.body = true) (room : s.bridge.bridgeQueue.length < 64)
    (hb : r.body = .cfgWrite t l be p) :
    exec .mgmtCfgWrite s = .next (s.takeCfgWrite r t be p) := by
  show execMgmtCfgWrite s = _
  simp [execMgmtCfgWrite, Bridge.managementHead_of hq fits, hb, Bridge.bridgeQueueHasRoom_of room]

theorem managementConfigAnswered : Parts.ManagementConfigAnswered := by
  intro s r rest t hq fits room answered own
  have answer : ∀ c, s.bridge.answerHead c = answered c := Bridge.answerHead_of_cons hq
  refine ⟨fun l be hb ho => ?_, fun l be hb ho => ?_, fun l be p hb ho => ?_, fun l be p hb ho => ?_⟩
  · rw [execMgmtCfgRead_of hq fits room hb, answer, Settings.cfgReadAnswer, if_pos ((CfgTarget.isOwn_iff t).2 ho)]
    rfl
  · rw [execMgmtCfgRead_of hq fits room hb, answer, Settings.cfgReadAnswer, CfgTarget.isOwn_of_not ho]
    rfl
  · rw [execMgmtCfgWrite_of hq fits room hb, State.takeCfgWrite, answer, Header.takeWrite, cfgWriteAnswer,
      (CfgTarget.isOwn_iff t).2 ho]
    rfl
  · rw [execMgmtCfgWrite_of hq fits room hb, State.takeCfgWrite, answer, Header.takeWrite, cfgWriteAnswer,
      CfgTarget.isOwn_of_not ho]
    rfl

/-! ### The header (R185, Table 10-1) -/

namespace Header

variable (h : Header)

theorem word_command : h.word 0x04 = if h.memDecode = true then 2 else 0 := by
  show packWord [(boolNat h.memDecode, 1, 1)] = _
  cases h.memDecode <;> rfl

theorem getLsbD_word_command : (h.word 0x04).getLsbD 1 = h.memDecode := by
  rw [h.word_command]
  cases h.memDecode <;> rfl

theorem extract_word_base_low : (h.word 0x10).extractLsb' 0 12 = 4 := by
  show (packWord [(4, 0, 4), (h.basePage.toNat, 12, 20)]).extractLsb' 0 12 = 4
  rw [extract_packWord_cons, extract_packWord_cons, extract_fieldWord_apart (lo := 12) (by omega)]
  rfl

theorem extract_word_base : (h.word 0x10).extractLsb' 12 20 = h.basePage.extractLsb' 0 20 := by
  show (packWord [(4, 0, 4), (h.basePage.toNat, 12, 20)]).extractLsb' 12 20 = _
  rw [extract_packWord_cons, extract_packWord_cons, extract_fieldWord_apart (lo := 0) (by omega),
    extract_fieldWord_same (by omega), extract_packWord_nil, ofNat_toNat_extract]
  exact BitVec.zero_or.trans BitVec.or_zero

theorem getLsbD_word_base {k : Nat} (hk : k < 20) :
    (h.word 0x10).getLsbD (12 + k) = h.basePage.getLsbD k := by
  have e := congrArg (·.getLsbD k) h.extract_word_base
  simpa [BitVec.getLsbD_extractLsb', hk] using e

theorem word_of_other {offset : Nat} (ho : offset ∉ [0x00, 0x04, 0x08, 0x10, 0x14]) :
    h.word offset = 0 := by
  unfold Header.word
  split <;> simp at ho ⊢

theorem write_of_other {offset : Nat} (be : BitVec 4) (x : Word) (ho : offset ∉ [0x04, 0x10, 0x14]) :
    h.write offset be x = h := by
  unfold Header.write
  split <;> simp at ho ⊢

theorem write_command (be : BitVec 4) (x : Word) :
    h.write 0x04 be x = { h with memDecode := if be.getLsbD 0 then x.getLsbD 1 else h.memDecode } := by
  show { h with memDecode := (mergeBytes be (h.word 0x04) x).getLsbD 1 } = _
  rw [getLsbD_mergeBytes be _ x (by omega), getLsbD_word_command]

/-- The page number after a write of the low base word. -/
def pageLow (be : BitVec 4) (x : Word) : BitVec 52 :=
  h.basePage.extractLsb' 20 32 ++ (mergeBytes be (h.word 0x10) x).extractLsb' 12 20

/-- The page number after a write of the high base word. -/
def pageHigh (be : BitVec 4) (x : Word) : BitVec 52 :=
  mergeBytes be (h.word 0x14) x ++ h.basePage.extractLsb' 0 20

theorem write_base_low (be : BitVec 4) (x : Word) :
    h.write 0x10 be x = { h with basePage := h.pageLow be x } := rfl

theorem write_base_high (be : BitVec 4) (x : Word) :
    h.write 0x14 be x = { h with basePage := h.pageHigh be x } := rfl

theorem pageLow_below (be : BitVec 4) (x : Word) {k : Nat} (hk : k < 20) :
    (h.pageLow be x).getLsbD k
      = if be.getLsbD ((12 + k) / 8) then x.getLsbD (12 + k) else h.basePage.getLsbD k := by
  rw [pageLow, BitVec.getLsbD_append, if_pos hk, BitVec.getLsbD_extractLsb',
    getLsbD_mergeBytes be _ x (by omega), h.getLsbD_word_base hk]
  simp [hk]

theorem pageLow_above (be : BitVec 4) (x : Word) {k : Nat} (hk : 20 ≤ k) :
    (h.pageLow be x).getLsbD k = h.basePage.getLsbD k := by
  rw [pageLow, BitVec.getLsbD_append, if_neg (by omega), BitVec.getLsbD_extractLsb',
    show 20 + (k - 20) = k by omega]
  by_cases inside : k - 20 < 32
  · simp [inside]
  · simp [inside, BitVec.getLsbD_of_ge h.basePage k (by omega)]

theorem pageHigh_above (be : BitVec 4) (x : Word) {k : Nat} (hk : k < 32) :
    (h.pageHigh be x).getLsbD (20 + k)
      = if be.getLsbD (k / 8) then x.getLsbD k else h.basePage.getLsbD (20 + k) := by
  have old : (h.word 0x14).getLsbD k = h.basePage.getLsbD (20 + k) := by
    show (h.basePage.extractLsb' 20 32).getLsbD k = _
    simp [hk]
  rw [pageHigh, BitVec.getLsbD_append, if_neg (by omega), Nat.add_sub_cancel_left,
    getLsbD_mergeBytes be _ x hk, old]

theorem pageHigh_below (be : BitVec 4) (x : Word) {k : Nat} (hk : k < 20) :
    (h.pageHigh be x).getLsbD k = h.basePage.getLsbD k := by
  rw [pageHigh, BitVec.getLsbD_append, if_pos hk]
  simp [hk]

end Header

theorem getLsbD_allEnables {k : Nat} (hk : k < 4) : (0xF : BitVec 4).getLsbD k = true := by
  have all : ∀ k : Fin 4, (0xF : BitVec 4).getLsbD k = true := by decide
  exact all ⟨k, hk⟩

theorem headerWords : Parts.HeaderWords := by
  intro h x
  refine ⟨rfl, h.word_command, rfl, h.extract_word_base_low, h.extract_word_base, rfl,
    fun _ ho => h.word_of_other ho, ?_, ?_, ?_, ?_, ?_, fun be => ⟨h.write_command be x,
      ⟨_, h.write_base_low be x, fun _ hk => h.pageLow_below be x hk,
        fun _ hk => h.pageLow_above be x hk⟩,
      ⟨_, h.write_base_high be x, fun _ hk => h.pageHigh_above be x hk,
        fun _ hk => h.pageHigh_below be x hk⟩, fun _ ho => h.write_of_other be x ho⟩⟩
  · rw [h.write_command]
    rfl
  all_goals refine BitVec.eq_of_getLsbD_eq fun k hk => ?_
  · rw [h.write_base_low, BitVec.getLsbD_extractLsb', BitVec.getLsbD_extractLsb', Nat.zero_add,
      h.pageLow_below _ x hk, getLsbD_allEnables (by omega)]
    rfl
  · rw [h.write_base_low, BitVec.getLsbD_extractLsb', BitVec.getLsbD_extractLsb',
      h.pageLow_above _ x (by omega)]
  · rw [h.write_base_high, BitVec.getLsbD_extractLsb', h.pageHigh_above _ x hk,
      getLsbD_allEnables (by omega)]
    simp [hk]
  · rw [h.write_base_high, BitVec.getLsbD_extractLsb', BitVec.getLsbD_extractLsb', Nat.zero_add,
      h.pageHigh_below _ x hk]

theorem bridgeRequesterId : Parts.BridgeRequesterId := by
  refine fun g => ⟨fun bus h => ?_, fun h => ?_⟩ <;> simp [Settings.bridgeId, h]

/-- Settles O24: the header's words field by field, and each bit that a write gives them. -/
theorem managementConfigRequests : Obligations.ManagementConfigRequests :=
  ⟨managementConfigAnswered, headerWords, bridgeRequesterId⟩

/-! ### Reads of the aperture (R187, R197) -/

theorem apertureHolds_iff (addr : Addr) (length : Nat) :
    apertureHolds addr length = true ↔ addr.toNat % 4096 + length ≤ 4096 := decide_eq_true_iff

theorem execApertureRead_of {s : State} {r : Request} {addr : Addr} {length : Nat} {f l : BitVec 4}
    {rest : List HostQueued} (hq : s.bridge.upIngress = { txn := .request r, route := .management } :: rest)
    (hb : r.body = .memRead addr length f l) (fits : ReqBody.fits r.body = true)
    (room : s.bridge.bridgeQueue.length < 64) :
    exec .apertureRead s
      = .next { s with bridge := s.bridge.answerHead (s.apertureAnswer r addr length) } := by
  show execApertureRead s = _
  simp [execApertureRead, Bridge.managementHead_of hq fits, hb, Bridge.bridgeQueueHasRoom_of room]

theorem apertureReadAnswered : Parts.ApertureReadAnswered := by
  intro s r rest addr length f l hq hb fits room answered offset
  have answer : ∀ c, { s with bridge := s.bridge.answerHead c } = answered c := fun c => by
    rw [Bridge.answerHead_of_cons hq]
  refine ⟨fun inside => ⟨s.apertureBytes offset length, ?_, ?_, fun k hk => ?_⟩, fun past => ?_⟩
  · rw [execApertureRead_of hq hb fits room, answer, State.apertureAnswer,
      if_pos ((apertureHolds_iff addr length).2 inside)]
    rfl
  · simp [State.apertureBytes]
  · simp [State.apertureBytes, hk, byteOf]
  · rw [execApertureRead_of hq hb fits room, answer, State.apertureAnswer,
      if_neg (mt (apertureHolds_iff addr length).1 (Nat.not_le.2 past))]
    rfl

/-! ### The summary record (R197, Table 10-8) -/

theorem State.apertureWord_summary (s : State) {k : Nat} (hk : k < 16) :
    s.apertureWord (256 + k) = s.summaryWord k := by
  rw [State.apertureWord, if_neg (by omega), if_pos (by omega), Nat.add_sub_cancel_left]

theorem State.summaryWord_slot (s : State) (n : SlotId) :
    s.summaryWord n.val = s.bridge.slotSummary n := by
  match n with
  | 0 => rfl
  | 1 => rfl
  | 2 => rfl
  | 3 => rfl

theorem State.summaryWord_past (s : State) {k : Nat} (hk : 7 ≤ k) : s.summaryWord k = 0 := by
  unfold State.summaryWord
  split <;> simp at hk ⊢

theorem State.apertureWord_past (s : State) {w : Nat} (hw : 263 ≤ w) : s.apertureWord w = 0 := by
  unfold State.apertureWord
  rw [if_neg (by omega)]
  split
  · exact s.summaryWord_past (by omega)
  · rfl

theorem extract_slotSummary (b : Bridge) (n : SlotId) (a w : Nat) :
    (b.slotSummary n).extractLsb' a w = (fieldWord (b.slot n).stage.code 0 4).extractLsb' a w |||
      (fieldWord (b.slot n).flags.toNat 8 8).extractLsb' a w := by
  rw [Bridge.slotSummary, extract_packWord_cons, extract_packWord_cons, extract_packWord_nil]
  exact congrArg _ BitVec.or_zero

theorem summaryRecord : Parts.SummaryRecord := by
  intro s
  have word : ∀ k, k < 16 → s.apertureWord (256 + k) = s.summaryWord k := fun _ => s.apertureWord_summary
  refine ⟨fun n => ?_, ?_, ?_, ?_, ?_, ?_, fun w hw => s.apertureWord_past hw⟩
  · rw [word n.val (by omega), s.summaryWord_slot]
    simp only [extract_slotSummary]
    refine ⟨?_, ?_, ?_, ?_⟩
    · rw [extract_fieldWord_same (by omega), extract_fieldWord_apart (by omega)]
      refine BitVec.or_zero.trans ?_
      cases (s.bridge.slot n).stage <;> rfl
    · rw [extract_fieldWord_apart (by omega), extract_fieldWord_apart (by omega)]
      rfl
    · rw [extract_fieldWord_apart (by omega), extract_fieldWord_same (by omega)]
      simp
    · rw [extract_fieldWord_apart (by omega), extract_fieldWord_apart (by omega)]
      rfl
  · rw [word 4 (by omega)]
    simp [State.summaryWord]
  · rw [word 4 (by omega)]
    simp [State.summaryWord]
  · rw [word 5 (by omega)]
    simp [State.summaryWord]
  · rw [word 5 (by omega)]
    simp [State.summaryWord]
  · rw [word 6 (by omega)]
    simp [State.summaryWord]

/-! ### The words of a cell (R187, Table 10-9) -/

theorem cellOfWord_of (k : CellId) {j : Nat} (hj : j < 16) : cellOfWord (16 * k.val + j) = k := by
  apply Fin.ext
  simp only [cellOfWord, Fin.ofNat]
  omega

theorem State.apertureWord_cell (s : State) (k : CellId) {j : Nat} (hj : j < 16) :
    s.apertureWord (16 * k.val + j) = (s.mgmt.cells.get k).word j := by
  rw [State.apertureWord, if_pos (by omega), cellOfWord_of k hj, show (16 * k.val + j) % 16 = j by omega]

theorem Cell.word_request (c : Cell) (j : Fin 8) : c.word j.val = c.request.get j := by
  rw [Cell.word, if_pos j.isLt]
  simp [Vector.get]

theorem Cell.word_result (c : Cell) (j : Fin 7) : c.word (9 + j.val) = c.results.get j := by
  rw [Cell.word, if_neg (by omega), if_neg (by omega), Nat.add_sub_cancel_left]
  simp [Vector.get]

theorem cellWordsRead : Parts.CellWordsRead := by
  intro s k c response
  have word : ∀ j, j < 16 → s.apertureWord (16 * k.val + j) = c.word j := fun _ => s.apertureWord_cell k
  have answer : response = packWord [(c.state.code, 0, 2), (c.status.code, 4, 4),
      (boolNat c.allClear, 8, 1), (c.echo.toNat, 16, 16)] := word 8 (by omega)
  refine ⟨fun j => (word j (by omega)).trans (c.word_request j), ?_, ?_, ?_, ?_, ?_, ?_, fun j => ?_⟩
  · rw [answer]
    simp [hasField]
    cases c.state <;> rfl
  · rw [answer]
    simp [hasField]
  · rw [answer]
    simp [hasField]
    cases c.status <;> rfl
  · rw [answer]
    simp
  · rw [answer]
    simp [hasField]
  · rw [answer]
    simp
  · rw [Nat.add_assoc]
    exact (word (9 + j.val) (by omega)).trans (c.word_result j)

/-- Settles O25: the words of the summary record and of a cell are packed fields, apart from one another. -/
theorem apertureReads : Obligations.ApertureReads :=
  ⟨apertureReadAnswered, summaryRecord, cellWordsRead⟩

end Sys2Proof.Machine
end

section
/-! PROOFS. Writes of the aperture (O26): the words of the cells, dword by dword and for a whole write. -/

namespace Sys2Proof.Machine

open Sys2Proof Sys2Proof.Safety

/-! ### The words of a request -/

theorem Vector.ext_get {α : Type} {n : Nat} {v w : Vector α n} (h : ∀ i : Fin n, v.get i = w.get i) :
    v = w :=
  Vector.ext fun i hi => h ⟨i, hi⟩

theorem Vector.get_ofFn' {α : Type} {n : Nat} (f : Fin n → α) (i : Fin n) :
    (Vector.ofFn f).get i = f i := by
  show (Vector.ofFn f)[i.val] = f i
  rw [Vector.getElem_ofFn]

theorem Vector.get_set' {α : Type} {n : Nat} (v : Vector α n) (i j : Fin n) (x : α) :
    (v.set i x).get j = if j = i then x else v.get j := by
  show (v.set i.val x)[j.val] = _
  rw [Vector.getElem_set]
  by_cases e : j = i
  · rw [if_pos e, if_pos (congrArg Fin.val e.symm)]
  · rw [if_neg e, if_neg fun k => e (Fin.ext k.symm)]
    rfl

theorem Cell.mergeRequest_eq (c : Cell) (j : Fin 8) (be : BitVec 4) (data : Word) :
    c.mergeRequest j.val be data
      = { c with request := c.request.set j (mergeBytes be (c.request.get j) data) } := by
  have old : c.request.toList.getD j.val 0 = c.request.get j := by simp [Vector.get]
  have inside : ∀ x, c.request.setIfInBounds j.val x = c.request.set j x := fun x => by
    apply Vector.ext
    intro i hi
    rw [Vector.getElem_setIfInBounds, Vector.getElem_set]
  rw [Cell.mergeRequest, old, inside]

theorem Cell.mergeRequest_get (c : Cell) (j i : Fin 8) (be : BitVec 4) (data : Word) :
    (c.mergeRequest j.val be data).request.get i
      = if i = j then mergeBytes be (c.request.get j) data else c.request.get i := by
  rw [Cell.mergeRequest_eq]
  exact Vector.get_set' _ _ _ _

/-! ### Which dwords submit and which store (R188) -/

theorem DwordWrite.submits_iff (w : DwordWrite) :
    w.submits = true ↔ w.index < 256 ∧ w.index % 16 = 0 ∧ w.be ≠ 0 := by
  simp [DwordWrite.submits, and_assoc]

theorem DwordWrite.stores_iff (w : DwordWrite) :
    w.stores = true ↔ w.index < 256 ∧ 1 ≤ w.index % 16 ∧ w.index % 16 ≤ 7 := by
  simp [DwordWrite.stores, and_assoc]

theorem Mgmt.writeAll_one_submits {m : Mgmt} {w : DwordWrite} (h : w.submits = true) :
    m.writeAll [w] = m.submitWord w := by
  have apart : w.stores = false := by
    rw [Bool.eq_false_iff]
    intro k
    rw [DwordWrite.submits_iff] at h
    rw [DwordWrite.stores_iff] at k
    omega
  simp [Mgmt.writeAll, h, apart]

theorem Mgmt.writeAll_one_stores {m : Mgmt} {w : DwordWrite} (h : w.stores = true) :
    m.writeAll [w] = m.storeWord w := by
  have apart : w.submits = false := by
    rw [Bool.eq_false_iff]
    intro k
    rw [DwordWrite.stores_iff] at h
    rw [DwordWrite.submits_iff] at k
    omega
  simp [Mgmt.writeAll, h, apart]

theorem Mgmt.writeAll_one_ignored {m : Mgmt} {w : DwordWrite} (hs : w.stores = false)
    (h : w.submits = false) : m.writeAll [w] = m := by
  simp [Mgmt.writeAll, hs, h]

theorem Mgmt.submitWord_busy {m : Mgmt} {w : DwordWrite} {k : CellId} {a : Vector Word 8}
    (hk : cellOfWord w.index = k) (h : (m.cells.get k).state = .inProgress a) :
    m.submitWord w = { m with collisions := min (m.collisions + 1) 65535 } := by
  subst hk
  simp only [Mgmt.submitWord, h]
  rfl

theorem Mgmt.submitWord_ready {m : Mgmt} {w : DwordWrite} {k : CellId} (hk : cellOfWord w.index = k)
    (h : ∀ a, (m.cells.get k).state ≠ .inProgress a) :
    m.submitWord w = { m with
      cells := m.cells.set k ((m.cells.get k).mergeRequest 0 w.be w.data).submitted
      queue := m.queue ++ [k] } := by
  subst hk
  unfold Mgmt.submitWord
  dsimp only
  split
  · rename_i a e; exact absurd e (h a)
  · rfl
  · rfl

theorem cellOfWord_word0 (k : CellId) : cellOfWord (16 * k.val) = k := cellOfWord_of k (j := 0) (by omega)

theorem cellWords : Parts.CellWords := by
  intro m k be data hbe c
  have submits : ({ index := 16 * k.val, be := be, data := data } : DwordWrite).submits = true := by
    rw [DwordWrite.submits_iff]
    exact ⟨by show 16 * k.val < 256; omega, by show 16 * k.val % 16 = 0; omega, hbe⟩
  refine ⟨fun a ha => ?_, fun ready => ?_, fun j hj => ?_, fun j hlow hhigh => ?_⟩
  · rw [Mgmt.writeAll_one_submits submits, Mgmt.submitWord_busy (cellOfWord_word0 k) ha]
  · rw [Mgmt.writeAll_one_submits submits, Mgmt.submitWord_ready (cellOfWord_word0 k) ready]
    have merged : (m.cells.get k).mergeRequest 0 be data = _ := Cell.mergeRequest_eq c 0 be data
    rw [merged]
    rfl
  · have stores : ({ index := 16 * k.val + j.val, be := be, data := data } : DwordWrite).stores = true := by
      rw [DwordWrite.stores_iff]
      have positive : 0 < j.val := Nat.pos_of_ne_zero fun e => hj (Fin.ext e)
      show 16 * k.val + j.val < 256 ∧ 1 ≤ (16 * k.val + j.val) % 16 ∧ (16 * k.val + j.val) % 16 ≤ 7
      omega
    rw [Mgmt.writeAll_one_stores stores, ← Cell.mergeRequest_eq]
    show m.setCell (cellOfWord (16 * k.val + j.val))
      ((m.cells.get (cellOfWord (16 * k.val + j.val))).mergeRequest ((16 * k.val + j.val) % 16) be data) = _
    rw [cellOfWord_of k (by omega), show (16 * k.val + j.val) % 16 = j.val by omega]
  · refine Mgmt.writeAll_one_ignored ?_ ?_
    · rw [Bool.eq_false_iff]
      intro e
      rw [DwordWrite.stores_iff] at e
      obtain ⟨-, -, e⟩ := e
      have : (16 * k.val + j) % 16 ≤ 7 := e
      omega
    · rw [Bool.eq_false_iff]
      intro e
      rw [DwordWrite.submits_iff] at e
      obtain ⟨-, e, -⟩ := e
      have : (16 * k.val + j) % 16 = 0 := e
      omega

/-! ### The dwords of a write (log 8) -/

theorem byte_wordOf (bytes : List Byte) {k : Nat} (hk : k < 4) :
    (wordOf bytes).extractLsb' (8 * k) 8 = bytes.getD k 0 := by
  refine BitVec.eq_of_getLsbD_eq fun i hi => ?_
  rw [BitVec.getLsbD_extractLsb', wordOf]
  simp only [BitVec.getLsbD_append, hi, decide_true, Bool.true_and]
  match k with
  | 0 => simp [hi]
  | 1 => 
    rw [if_neg (by omega), if_pos (by omega), show 8 * 1 + i - 8 = i by omega]
  | 2 =>
    rw [if_neg (by omega), if_neg (by omega), if_pos (by omega), show 8 * 2 + i - 8 - 8 = i by omega]
  | 3 =>
    rw [if_neg (by omega), if_neg (by omega), if_neg (by omega), show 8 * 3 + i - 8 - 8 - 8 = i by omega]

theorem dwordsOfWrite : Parts.DwordsOfWrite := by
  intro addr length f l p ws
  refine ⟨by simp [ws, dwordWrites], fun d hd => ⟨wordOf (p.drop (4 * d)), ?_, fun k hk => ?_⟩⟩
  · simp [ws, dwordWrites, hd, apertureOffset, dwordEnables]
  · rw [byte_wordOf _ hk]
    simp [List.getD_eq_getElem?_getD]

/-! ### A write at the head -/

section WriteHead

variable {s : State} {r : Request} {rest : List HostQueued} {addr : Addr} {length : Nat}
  {f l : BitVec 4} {p : List Byte}

theorem Bridge.apertureWrites_of
    (hq : s.bridge.upIngress = { txn := .request r, route := .management } :: rest)
    (hb : r.body = .memWrite addr length f l p) (fits : ReqBody.fits r.body = true) :
    s.bridge.apertureWrites
      = if apertureHolds addr length then some (dwordWrites addr length f l p) else none := by
  simp [Bridge.apertureWrites, Bridge.managementHead_of hq fits, hb]

theorem Bridge.apertureOverrun_of
    (hq : s.bridge.upIngress = { txn := .request r, route := .management } :: rest)
    (hb : r.body = .memWrite addr length f l p) (fits : ReqBody.fits r.body = true) :
    s.bridge.apertureOverrun = !apertureHolds addr length := by
  simp [Bridge.apertureOverrun, Bridge.managementHead_of hq fits, hb]

end WriteHead

theorem apertureWriteTaken : Parts.ApertureWriteTaken := by
  intro s r rest addr length f l p hq hb fits b ws inside
  have popped : s.bridge.popUpstream = b := Bridge.popUpstream_of_cons hq
  have writes := Bridge.apertureWrites_of hq hb fits
  refine ⟨fun hi hs => ?_, fun hi hs => ?_, fun ho => ?_⟩
  · rw [(apertureHolds_iff addr length).2 hi, if_pos rfl] at writes
    show execCellSubmit s = _
    simp only [execCellSubmit, writes]
    rw [if_pos hs, State.takeWrites, popped]
  · rw [(apertureHolds_iff addr length).2 hi, if_pos rfl] at writes
    show execApertureWrite s = _
    simp only [execApertureWrite, writes]
    rw [if_neg (by rw [hs]; exact Bool.false_ne_true), State.takeWrites, popped]
  · have out : apertureHolds addr length = false :=
      Bool.eq_false_iff.2 (mt (apertureHolds_iff addr length).1 ho)
    have overrun := Bridge.apertureOverrun_of hq hb fits
    rw [out] at writes overrun
    show execApertureWrite s = _
    simp only [execApertureWrite, writes, overrun, Bool.false_eq_true, if_false, Bool.not_false, if_true]
    rw [popped]
    rfl

end Sys2Proof.Machine
end

section
/-! PROOFS. A whole write of the aperture (O26): first the stores, then the submissions. -/

namespace Sys2Proof.Machine

open Sys2Proof Sys2Proof.Safety

/-- A request word after a write: the enabled bytes of the dword at its index, if the write has one. -/
def writtenWord (ws : List DwordWrite) (index : Nat) (old : Word) : Word :=
  match ws.find? fun w => decide (w.index = index) with
  | some w => mergeBytes w.be old w.data
  | none => old

theorem writtenWord_of_mem {ws : List DwordWrite} {w : DwordWrite} {index : Nat}
    (order : ws.Pairwise fun v w => v.index < w.index) (h : w ∈ ws) (e : w.index = index) (old : Word) :
    writtenWord ws index old = mergeBytes w.be old w.data := by
  have found : ws.find? (fun w => decide (w.index = index)) = some w := by
    induction ws with
    | nil => cases h
    | cons v vs ih =>
      rw [List.pairwise_cons] at order
      obtain ⟨first, order⟩ := order
      rcases List.mem_cons.1 h with rfl | h
      · exact List.find?_cons_of_pos (decide_eq_true e)
      · have ne : v.index ≠ index := by have := first w h; omega
        rw [List.find?_cons_of_neg (by simpa using ne)]
        exact ih order h
  rw [writtenWord, found]

theorem writtenWord_of_not_mem {ws : List DwordWrite} {index : Nat}
    (h : ∀ w ∈ ws, w.index ≠ index) (old : Word) : writtenWord ws index old = old := by
  have none : ws.find? (fun w => decide (w.index = index)) = none :=
    List.find?_eq_none.2 fun w hw => by simpa using h w hw
  rw [writtenWord, none]

theorem writtenWord_cons_ne {w : DwordWrite} {ws : List DwordWrite} {index : Nat}
    (h : w.index ≠ index) (old : Word) : writtenWord (w :: ws) index old = writtenWord ws index old := by
  rw [writtenWord, List.find?_cons_of_neg (by simpa using h)]
  rfl

/-! ### The stores -/

/-- A cell with each request word but word 0 as the dwords leave it. -/
def storedCell (ws : List DwordWrite) (k : CellId) (c : Cell) : Cell :=
  { c with request := Vector.ofFn fun j : Fin 8 =>
      if j = 0 then c.request.get 0 else writtenWord ws (16 * k.val + j.val) (c.request.get j) }

theorem storedCell_request (ws : List DwordWrite) (k : CellId) (c : Cell) (j : Fin 8) :
    (storedCell ws k c).request.get j =
      if j = 0 then c.request.get 0 else writtenWord ws (16 * k.val + j.val) (c.request.get j) :=
  Vector.get_ofFn' _ j

theorem Cell.ext_request {c d : Cell} (h : ∀ j, c.request.get j = d.request.get j)
    (rest : c = { d with request := c.request }) : c = d := by
  rw [rest, Vector.ext_get h]

theorem storedCell_nil (k : CellId) (c : Cell) : storedCell [] k c = c := by
  refine Cell.ext_request (fun j => ?_) rfl
  rw [storedCell_request]
  split
  · rename_i e; rw [e]
  · rfl

/-- The stores of a write in ascending order leave each cell with its words as the dwords leave them. -/
theorem Mgmt.cells_storeAll {ws : List DwordWrite} (order : ws.Pairwise fun v w => v.index < w.index)
    (m : Mgmt) (k : CellId) :
    ((ws.filter DwordWrite.stores).foldl Mgmt.storeWord m).cells.get k
      = storedCell ws k (m.cells.get k) := by
  induction ws generalizing m with
  | nil => exact (storedCell_nil k _).symm
  | cons w ws ih =>
    rw [List.pairwise_cons] at order
    obtain ⟨first, order⟩ := order
    by_cases hs : w.stores = true
    · rw [List.filter_cons_of_pos hs, List.foldl_cons, ih order, Mgmt.storeWord, Mgmt.cells_setCell]
      rw [DwordWrite.stores_iff] at hs
      obtain ⟨inside, low, high⟩ := hs
      have cell : (cellOfWord w.index).val = w.index / 16 := by
        simp only [cellOfWord, Fin.ofNat]
        omega
      split
      · rename_i e
        rw [← e] at cell ⊢
        refine Cell.ext_request (fun j => ?_) rfl
        rw [storedCell_request, storedCell_request,
          show w.index % 16 = (⟨w.index % 16, by omega⟩ : Fin 8).val from rfl, Cell.mergeRequest_get,
          Cell.mergeRequest_get]
        by_cases zero : j = 0
        · subst zero
          rw [if_pos rfl, if_pos rfl, if_neg]
          intro k
          have := congrArg Fin.val k
          simp at this
          omega
        · rw [if_neg zero, if_neg zero]
          by_cases here : j = ⟨w.index % 16, by omega⟩
          · have index : w.index = 16 * k.val + j.val := by
              rw [here]
              show w.index = 16 * k.val + w.index % 16
              omega
            rw [if_pos here, writtenWord_of_mem (List.pairwise_cons.2 ⟨first, order⟩)
              List.mem_cons_self index, writtenWord_of_not_mem, here]
            intro v hv
            have := first v hv
            omega
          · rw [if_neg here, writtenWord_cons_ne]
            intro index
            apply here
            apply Fin.ext
            show j.val = w.index % 16
            omega
      · rename_i e
        refine Cell.ext_request (fun j => ?_) rfl
        rw [storedCell_request, storedCell_request, writtenWord_cons_ne]
        intro index
        apply e
        apply Fin.ext
        omega
    · rw [List.filter_cons_of_neg hs, ih order]
      refine Cell.ext_request (fun j => ?_) rfl
      rw [storedCell_request, storedCell_request]
      by_cases zero : j = 0
      · rw [if_pos zero, if_pos zero]
      · rw [if_neg zero, if_neg zero, writtenWord_cons_ne]
        intro index
        rw [DwordWrite.stores_iff] at hs
        have : 0 < j.val := Nat.pos_of_ne_zero fun e => zero (Fin.ext e)
        omega

theorem Mgmt.storeAll_rest (vs : List DwordWrite) (m : Mgmt) :
    (vs.foldl Mgmt.storeWord m).queue = m.queue ∧ (vs.foldl Mgmt.storeWord m).collisions = m.collisions := by
  induction vs generalizing m with
  | nil => exact ⟨rfl, rfl⟩
  | cons v vs ih => exact ih (m.storeWord v)

/-! ### The submissions -/

/-- The collision counter after `n` more collisions (R188). -/
def collided (collisions n : Nat) : Nat := if n = 0 then collisions else min (collisions + n) 65535

theorem collided_succ (c n : Nat) : collided (min (c + 1) 65535) n = collided c (n + 1) := by
  unfold collided
  rw [if_neg (Nat.succ_ne_zero n)]
  split
  · rename_i e; rw [e]
  · omega

/-- The cell that a dword of word 0 submits. -/
def DwordWrite.cell (w : DwordWrite) : CellId := cellOfWord w.index

theorem inProgress_iff (c : Cell) : inProgress c = true ↔ ∃ a, c.state = .inProgress a := by
  unfold inProgress
  cases c.state <;> simp

theorem Mgmt.submitWord_of_inProgress {m : Mgmt} {w : DwordWrite}
    (h : inProgress (m.cells.get w.cell) = true) :
    m.submitWord w = { m with collisions := min (m.collisions + 1) 65535 } := by
  obtain ⟨a, e⟩ := (inProgress_iff _).1 h
  exact Mgmt.submitWord_busy rfl e

theorem Mgmt.submitWord_of_not_inProgress {m : Mgmt} {w : DwordWrite}
    (h : inProgress (m.cells.get w.cell) = false) :
    m.submitWord w = { m.setCell w.cell ((m.cells.get w.cell).mergeRequest 0 w.be w.data).submitted with
      queue := m.queue ++ [w.cell] } :=
  Mgmt.submitWord_ready rfl fun a e => by
    rw [(inProgress_iff _).2 ⟨a, e⟩] at h
    cases h

/-- A submission leaves every other cell. -/
theorem Mgmt.submitWord_cells_ne (m : Mgmt) {w : DwordWrite} {k : CellId} (h : k ≠ w.cell) :
    (m.submitWord w).cells.get k = m.cells.get k := by
  cases e : inProgress (m.cells.get w.cell) with
  | true => rw [Mgmt.submitWord_of_inProgress e]
  | false =>
    rw [Mgmt.submitWord_of_not_inProgress e]
    exact Mgmt.cells_setCell_ne _ _ h

theorem Mgmt.submitAll_cells_ne {vs : List DwordWrite} {k : CellId} (h : k ∉ vs.map DwordWrite.cell)
    (m : Mgmt) : (vs.foldl Mgmt.submitWord m).cells.get k = m.cells.get k := by
  induction vs generalizing m with
  | nil => rfl
  | cons v vs ih =>
    rw [List.map_cons, List.mem_cons, not_or] at h
    rw [List.foldl_cons, ih h.2, m.submitWord_cells_ne h.1]

theorem filter_inProgress_submitWord (m : Mgmt) {v : DwordWrite} {ks : List CellId} (h : v.cell ∉ ks)
    (p : Bool → Bool) :
    ks.filter (fun k => p (inProgress ((m.submitWord v).cells.get k)))
      = ks.filter fun k => p (inProgress (m.cells.get k)) :=
  List.filter_congr fun k hk => by
    rw [m.submitWord_cells_ne fun e => h (e ▸ hk)]

section SubmitAll

variable {vs : List DwordWrite} (nodup : (vs.map DwordWrite.cell).Nodup) (m : Mgmt)

include nodup

/-- The cells that were ready join the queue in order. -/
theorem Mgmt.submitAll_queue :
    (vs.foldl Mgmt.submitWord m).queue
      = m.queue ++ (vs.map DwordWrite.cell).filter fun k => !(inProgress (m.cells.get k)) := by
  induction vs generalizing m with
  | nil => exact (List.append_nil _).symm
  | cons v vs ih =>
    obtain ⟨fresh, nodup⟩ := List.nodup_cons.1 nodup
    rw [List.foldl_cons, ih nodup, filter_inProgress_submitWord m fresh (! ·), List.map_cons]
    cases e : inProgress (m.cells.get v.cell) with
    | true => rw [Mgmt.submitWord_of_inProgress e, List.filter_cons_of_neg (by simp [e])]
    | false =>
      rw [Mgmt.submitWord_of_not_inProgress e, List.filter_cons_of_pos (by simp [e]), List.append_assoc]
      rfl

/-- Each cell that was IN-PROGRESS counts a collision. -/
theorem Mgmt.submitAll_collisions :
    (vs.foldl Mgmt.submitWord m).collisions = collided m.collisions
      ((vs.map DwordWrite.cell).filter fun k => inProgress (m.cells.get k)).length := by
  induction vs generalizing m with
  | nil => rfl
  | cons v vs ih =>
    obtain ⟨fresh, nodup⟩ := List.nodup_cons.1 nodup
    have same := filter_inProgress_submitWord m fresh id
    simp only [id] at same
    rw [List.foldl_cons, ih nodup, same, List.map_cons]
    cases e : inProgress (m.cells.get v.cell) with
    | true =>
      rw [Mgmt.submitWord_of_inProgress e, List.filter_cons_of_pos (by exact e), collided_succ]
      rfl
    | false =>
      rw [Mgmt.submitWord_of_not_inProgress e, List.filter_cons_of_neg (by simp [e])]
      rfl

theorem Mgmt.submitAll_cells_inProgress {k : CellId} (h : inProgress (m.cells.get k) = true) :
    (vs.foldl Mgmt.submitWord m).cells.get k = m.cells.get k := by
  induction vs generalizing m with
  | nil => rfl
  | cons v vs ih =>
    obtain ⟨fresh, nodup⟩ := List.nodup_cons.1 nodup
    have same : (m.submitWord v).cells.get k = m.cells.get k := by
      by_cases e : k = v.cell
      · rw [Mgmt.submitWord_of_inProgress (e ▸ h)]
      · exact m.submitWord_cells_ne e
    rw [List.foldl_cons, ih nodup _ (by rw [same]; exact h), same]

theorem Mgmt.submitAll_cells_ready {w : DwordWrite} (hw : w ∈ vs)
    (h : inProgress (m.cells.get w.cell) = false) :
    (vs.foldl Mgmt.submitWord m).cells.get w.cell
      = ((m.cells.get w.cell).mergeRequest 0 w.be w.data).submitted := by
  induction vs generalizing m with
  | nil => cases hw
  | cons v vs ih =>
    obtain ⟨fresh, nodup⟩ := List.nodup_cons.1 nodup
    rw [List.foldl_cons]
    rcases List.mem_cons.1 hw with rfl | hw
    · rw [Mgmt.submitAll_cells_ne fresh, Mgmt.submitWord_of_not_inProgress h]
      exact Mgmt.cells_setCell_self _ _ _
    · have ne : w.cell ≠ v.cell := fun e => fresh (e ▸ List.mem_map_of_mem hw)
      rw [ih nodup _ hw (by rw [m.submitWord_cells_ne ne]; exact h), m.submitWord_cells_ne ne]

end SubmitAll

/-! ### The submissions of a write in ascending order -/

theorem DwordWrite.cell_of_submits {w : DwordWrite} (h : w.submits = true) (k : CellId) :
    w.cell = k ↔ w.index = 16 * k.val := by
  obtain ⟨inside, aligned, -⟩ := w.submits_iff.1 h
  have cell : w.cell.val = w.index / 16 := by
    simp only [DwordWrite.cell, cellOfWord, Fin.ofNat]
    omega
  rw [Fin.ext_iff, cell]
  omega

/-- The cells that a write submits, each word 0 of a cell with an enabled byte. -/
def submitted (ws : List DwordWrite) (k : CellId) : Bool :=
  ws.any fun w => decide (w.index = 16 * k.val) && decide (w.be ≠ 0)

theorem mem_submits (ws : List DwordWrite) (k : CellId) :
    k ∈ (ws.filter DwordWrite.submits).map DwordWrite.cell ↔ submitted ws k = true := by
  simp only [submitted, List.mem_map, List.mem_filter, List.any_eq_true, Bool.and_eq_true,
    decide_eq_true_eq]
  constructor
  · rintro ⟨w, ⟨hw, hs⟩, e⟩
    exact ⟨w, hw, (DwordWrite.cell_of_submits hs k).1 e, (w.submits_iff.1 hs).2.2⟩
  · rintro ⟨w, hw, e, hb⟩
    have hs : w.submits = true := w.submits_iff.2 ⟨by omega, by omega, hb⟩
    exact ⟨w, ⟨hw, hs⟩, (DwordWrite.cell_of_submits hs k).2 e⟩

theorem submits_eq {ws : List DwordWrite} (order : ws.Pairwise fun v w => v.index < w.index) :
    (ws.filter DwordWrite.submits).map DwordWrite.cell = (List.finRange 16).filter (submitted ws) := by
  refine List.Pairwise.eq_of_mem_iff (r := (· < ·)) ?_
    ((List.sortedLT_finRange 16).pairwise.sublist List.filter_sublist) fun k => ?_
  · rw [List.pairwise_map]
    refine (List.Pairwise.and_mem.1 (order.sublist List.filter_sublist)).imp ?_
    rintro v w ⟨hv, hw, lt⟩
    have v_at := (DwordWrite.cell_of_submits (List.mem_filter.1 hv).2 v.cell).1 rfl
    have w_at := (DwordWrite.cell_of_submits (List.mem_filter.1 hw).2 w.cell).1 rfl
    rw [Fin.lt_def]
    omega
  · rw [mem_submits, List.mem_filter]
    simp

theorem submits_nodup {ws : List DwordWrite} (order : ws.Pairwise fun v w => v.index < w.index) :
    ((ws.filter DwordWrite.submits).map DwordWrite.cell).Nodup := by
  rw [submits_eq order]
  exact (List.nodup_finRange 16).filter _

theorem inProgress_storedCell (ws : List DwordWrite) (k : CellId) (c : Cell) :
    inProgress (storedCell ws k c) = inProgress c := rfl

/-- A cell with each request word as the dwords leave it. -/
def writtenRequest (ws : List DwordWrite) (k : CellId) (c : Cell) : Vector Word 8 :=
  Vector.ofFn fun j : Fin 8 => writtenWord ws (16 * k.val + j.val) (c.request.get j)

/-- The submission merges word 0 of the cell as the stores left it. -/
theorem submitted_storedCell {ws : List DwordWrite} {w : DwordWrite} {k : CellId}
    (order : ws.Pairwise fun v w => v.index < w.index) (hw : w ∈ ws) (e : w.index = 16 * k.val) (c : Cell) :
    ((storedCell ws k c).mergeRequest 0 w.be w.data).submitted =
      { request := writtenRequest ws k c
        state := .inProgress (writtenRequest ws k c)
        status := .done
        allClear := false
        echo := c.echo
        results := Vector.replicate 7 0 } := by
  have request : ((storedCell ws k c).mergeRequest 0 w.be w.data).request = writtenRequest ws k c := by
    refine Vector.ext_get fun j => ?_
    rw [show ((storedCell ws k c).mergeRequest 0 w.be w.data).request.get j = _ from
      Cell.mergeRequest_get _ 0 j w.be w.data, storedCell_request, storedCell_request, writtenRequest,
      Vector.get_ofFn', if_pos rfl]
    by_cases zero : j = 0
    · rw [if_pos zero, zero]
      exact (writtenWord_of_mem order hw e _).symm
    · rw [if_neg zero, if_neg zero]
  rw [Cell.submitted, request]
  rfl

theorem wholeWrites : Parts.WholeWrites := by
  intro m ws order t submits busy stored collisions
  have nodup := submits_nodup order
  have cells := Mgmt.cells_storeAll order m
  obtain ⟨queue_stored, collisions_stored⟩ := Mgmt.storeAll_rest (ws.filter DwordWrite.stores) m
  have busy_stored : ∀ k, inProgress (((ws.filter DwordWrite.stores).foldl Mgmt.storeWord m).cells.get k)
      = busy k := fun k => by
    rw [cells k, inProgress_storedCell]
    show inProgress (m.cells.get k) = match (m.cells.get k).state with
      | .inProgress _ => true
      | .idle => false
      | .done => false
    unfold inProgress
    cases (m.cells.get k).state <;> rfl
  have count : t.collisions = collided m.collisions collisions := by
    show (Mgmt.writeAll m ws).collisions = _
    rw [Mgmt.writeAll, Mgmt.submitAll_collisions nodup, collisions_stored, submits_eq order,
      List.filter_filter]
    simp only [busy_stored, Bool.and_comm]
    rfl
  refine ⟨?_, fun h => ?_, fun h => ?_, fun k => ⟨fun hs hb => ?_, fun h => ?_⟩⟩
  · show (Mgmt.writeAll m ws).queue = _
    rw [Mgmt.writeAll, Mgmt.submitAll_queue nodup, queue_stored, submits_eq order, List.filter_filter]
    simp only [busy_stored, Bool.and_comm]
    rfl
  · rw [count, h]
    rfl
  · rw [count, collided, if_neg (Nat.pos_iff_ne_zero.1 h)]
  · obtain ⟨w, hw, rfl⟩ := List.mem_map.1 ((mem_submits ws k).2 hs)
    obtain ⟨hw', hsub⟩ := List.mem_filter.1 hw
    show (Mgmt.writeAll m ws).cells.get w.cell = _
    rw [Mgmt.writeAll, Mgmt.submitAll_cells_ready nodup _ hw ((busy_stored _).trans hb), cells]
    exact submitted_storedCell order hw' ((DwordWrite.cell_of_submits hsub w.cell).1 rfl) _
  · show (Mgmt.writeAll m ws).cells.get k = _
    rcases h with h | h
    · rw [Mgmt.writeAll, Mgmt.submitAll_cells_ne, cells]
      · rfl
      · rw [mem_submits]
        show ¬ submits k = true
        rw [h]
        exact Bool.false_ne_true
    · rw [Mgmt.writeAll, Mgmt.submitAll_cells_inProgress nodup _ ((busy_stored k).trans h), cells]
      rfl

/-- Settles O26: the stores settle each word of each cell, and the submissions take each cell once. -/
theorem apertureWrites : Obligations.ApertureWrites :=
  ⟨apertureWriteTaken, cellWords, dwordsOfWrite, wholeWrites⟩

end Sys2Proof.Machine
end

section
/-! PROOFS. The head of a Card Ingress Queue: its requests and messages (O27, O28, O29). -/

namespace Sys2Proof.Machine

open Sys2Proof Sys2Proof.Safety

/-! ### The head -/

section CardHeads

variable {b : Bridge} {n : SlotId} {rest : List CardQueued}

theorem Bridge.cardHead_of_cons {r : Request} {route : CardRoute}
    (h : (b.slot n).ingress = { txn := .request r, route := route } :: rest) :
    b.cardHead n = some (r, route) := by
  simp [Bridge.cardHead, h]

theorem Bridge.cardHeadCompletion_of_cons {c : Completion} {route : CardRoute}
    (h : (b.slot n).ingress = { txn := .completion c, route := route } :: rest) :
    b.cardHeadCompletion n = some c := by
  simp [Bridge.cardHeadCompletion, h]

theorem Bridge.modSlot_congr {f g : Slot → Slot} (h : f (b.slot n) = g (b.slot n)) :
    b.modSlot n f = b.modSlot n g := by
  simp only [Bridge.modSlot, h]

theorem Bridge.popCard_of_cons {q : CardQueued} (h : (b.slot n).ingress = q :: rest) :
    b.popCard n = b.modSlot n fun x => { x with ingress := rest } :=
  Bridge.modSlot_congr (by rw [h]; rfl)

theorem Bridge.upQueueHasRoom_of (h : (b.slot n).upQueue.length < 32) : b.upQueueHasRoom n = true :=
  (upQueueHasRoom_iff b n).2 h

end CardHeads

/-! ### A granted request (R18, Table 1-6) -/

section Granted

variable {b : Bridge} {g : Settings} {n : SlotId} {r : Request} {dest : CardDest} {rest : List CardQueued}

theorem Bridge.cardForward_of
    (h : (b.slot n).ingress = { txn := .request r, route := .checked dest true } :: rest)
    (fits : ReqBody.fits r.body = true) (admitted : (b.slot n).stage = .admitted) :
    b.cardForward g n = b.forwardCard g n r dest := by
  simp [Bridge.cardForward, Bridge.cardHead_of_cons h, fits, Bridge.isAdmitted_of admitted]

theorem Bridge.handCardHead_of_free (h : b.direct = none) (x : StandIn) (counted : SlotId) :
    b.handCardHead n r x counted = (b.popCard n).occupyDirect r (.card n) x (some counted) := by
  simp [Bridge.handCardHead, h]

theorem Bridge.forwardUp_posted (room : (b.slot n).upQueue.length < 32)
    (posted : ReqBody.posted r.body = true) :
    b.forwardUp g n r = (b.popCard n).pushUpQueue n (.request r) := by
  rw [Bridge.forwardUp, if_pos (Bridge.upQueueHasRoom_of room), if_pos posted]

theorem Bridge.forwardUp_entry {i : BridgeTag} {asked : Asked} (room : (b.slot n).upQueue.length < 32)
    (ha : ReqBody.asked r.body = some asked) (hi : b.offeredEntry g n = some i) :
    b.forwardUp g n r =
      ((b.popCard n).allocate i n
        (b.newRecord g (.slot n (Request.requester r)) .upstream asked none)).pushUpQueue n
        (.request (Request.underTag r g i)) := by
  rw [Bridge.forwardUp, if_pos (Bridge.upQueueHasRoom_of room), ReqBody.posted_of_asked ha, hi, ha]
  rfl

theorem Bridge.forwardPeer_posted {m : SlotId} {answer : FenceAnswer}
    (room : (b.slot m).egress.length < 32) (posted : ReqBody.posted r.body = true) :
    b.forwardPeer g n m answer r = (b.popCard n).pushEgress m .traffic (.request r) := by
  rw [Bridge.forwardPeer, if_pos (Bridge.egressHasRoom_of room), if_pos posted]

theorem Bridge.forwardPeer_entry {m : SlotId} {answer : FenceAnswer} {i : BridgeTag} {asked : Asked}
    (room : (b.slot m).egress.length < 32) (ha : ReqBody.asked r.body = some asked)
    (hi : b.offeredEntry g n = some i) :
    b.forwardPeer g n m answer r =
      ((b.popCard n).allocate i n
        (b.newRecord g (.slot n (Request.requester r)) (.slot m) asked (some answer))).pushEgress m
        .traffic (.request (Request.underTag r g i)) := by
  rw [Bridge.forwardPeer, if_pos (Bridge.egressHasRoom_of room), ReqBody.posted_of_asked ha, hi, ha]
  rfl

theorem Bridge.forwardCard_admitted {m : SlotId} (answer : FenceAnswer)
    (admitted : (b.slot m).stage = .admitted) :
    b.forwardCard g n r (.peer m answer) = b.forwardPeer g n m answer r :=
  if_pos (Bridge.isAdmitted_of admitted)

theorem Bridge.forwardCard_away {m : SlotId} (answer : FenceAnswer)
    (away : (b.slot m).stage ≠ .admitted) :
    b.forwardCard g n r (.peer m answer) = b.answerPeerAway n m answer r :=
  if_neg (by rw [Bridge.isAdmitted_of_ne away]; exact Bool.false_ne_true)

end Granted

/-- Settles O27: Table 1-6, a row at a time. -/
theorem cardRequestForwarded : Obligations.CardRequestForwarded := by
  intro s n r dest rest hq fits admitted b entry sent
  have popped : s.bridge.popCard n = b := Bridge.popCard_of_cons hq
  have acts : ∀ d, s.bridge.forwardCard s.settings n r dest = d →
      exec (.cardHeadForward n) s = .next (onBridge s d) := fun d h =>
    State.act_eq_of (f := fun b g => b.cardForward g n) ((Bridge.cardForward_of hq fits admitted).trans h)
  refine ⟨?_, ?_, ?_, ?_, ?_, ?_⟩
  · rintro rfl room posted
    refine acts _ ?_
    rw [Bridge.forwardCard, Bridge.forwardUp_posted room posted, popped]
  · rintro i asked rfl room - ha hi
    refine acts _ ?_
    rw [Bridge.forwardCard, Bridge.forwardUp_entry room ha hi, popped]
    rfl
  · rintro m answer rfl peer room posted
    refine acts _ ?_
    rw [Bridge.forwardCard_admitted answer peer, Bridge.forwardPeer_posted room posted, popped]
  · rintro i asked m answer rfl peer room - ha hi
    refine acts _ ?_
    rw [Bridge.forwardCard_admitted answer peer, Bridge.forwardPeer_entry room ha hi, popped]
    rfl
  · rintro m answer rfl peer posted
    refine acts _ ?_
    rw [Bridge.forwardCard_away answer peer, Bridge.answerPeerAway, if_pos posted, popped]
  · rintro m answer rfl peer posted free
    refine acts _ ?_
    rw [Bridge.forwardCard_away answer peer, Bridge.answerPeerAway,
      if_neg (by rw [posted]; exact Bool.false_ne_true), Bridge.handCardHead_of_free free, popped]
    cases answer <;> rfl

/-! ### Messages (R20) -/

section Messages

variable {b : Bridge} {g : Settings} {n : SlotId} {r : Request} {m : Message}

theorem Bridge.cardMessage_of {route : CardRoute} {rest : List CardQueued}
    (h : (b.slot n).ingress = { txn := .request r, route := route } :: rest)
    (hb : r.body = .message m) : b.cardMessage g n = b.handleMessage g n r m := by
  simp [Bridge.cardMessage, Bridge.cardHead_of_cons h, hb]

theorem Bridge.handleMessage_kept (h : b.forwardsMessage g n m = false) :
    b.handleMessage g n r m = (b.popCard n).messageLeaves g n false m := by
  simp [Bridge.handleMessage, h]

theorem Bridge.handleMessage_forwarded (h : b.forwardsMessage g n m = true)
    (room : (b.slot n).upQueue.length < 32) :
    b.handleMessage g n r m = ((b.popCard n).pushUpQueue n (.request r)).messageLeaves g n true m := by
  simp [Bridge.handleMessage, h, Bridge.upQueueHasRoom_of room]

theorem Bridge.forwardsMessage_soft {severity : Severity} (h : severity ≠ .fatal) :
    b.forwardsMessage g n (.error severity) = true ↔
      (b.slot n).stage = .admitted ∧ (g.policy n).messagePolicy = .forward := by
  cases severity with
  | fatal => exact absurd rfl h
  | nonfatal => simp [Bridge.forwardsMessage, Bridge.isAdmitted]
  | correctable => simp [Bridge.forwardsMessage, Bridge.isAdmitted]

end Messages

/-- Settles O28: whether the message is forwarded decides what leaves the head, and its kind what is counted. -/
theorem cardMessageHandled : Obligations.CardMessageHandled := by
  intro s n r route m rest hq hb g admitted forwards popped pushed noted soft mild answers
  have pop : s.bridge.popCard n = popped := Bridge.popCard_of_cons hq
  have acts : ∀ d, s.bridge.handleMessage g n r m = d → answers d := fun d h =>
    State.actSettled_eq_of (f := fun b g => b.cardMessage g n) ((Bridge.cardMessage_of hq hb).trans h)
  have kept : s.bridge.forwardsMessage g n m = false → answers (popped.messageLeaves g n false m) :=
    fun h => acts _ (by rw [Bridge.handleMessage_kept h, pop])
  have sent : s.bridge.forwardsMessage g n m = true → (s.bridge.slot n).upQueue.length < 32 →
      answers (pushed.messageLeaves g n true m) :=
    fun h room => acts _ (by rw [Bridge.handleMessage_forwarded h room, pop])
  have softer : ∀ {severity}, severity ≠ .fatal → (s.bridge.forwardsMessage g n (.error severity) = true ↔
      forwards) := fun h => Bridge.forwardsMessage_soft h
  refine ⟨?_, ?_, ?_, ?_, ?_, ?_, ?_⟩
  · rintro rfl
    exact kept rfl
  · rintro rfl stays
    exact kept (Bool.eq_false_iff.2 (mt (softer (by nofun)).1 stays))
  · rintro rfl stays
    exact kept (Bool.eq_false_iff.2 (mt (softer (by nofun)).1 stays))
  · rintro rfl goes room
    exact sent ((softer (by nofun)).2 goes) room
  · rintro rfl goes room
    exact sent ((softer (by nofun)).2 goes) room
  · rintro c rfl goes room
    exact sent (Bridge.isAdmitted_of goes) room
  · rintro c rfl stays
    exact kept (Bridge.isAdmitted_of_ne stays)

/-! ### Requests that are not forwarded (R3, R19, R21) -/

section NotForwarded

variable {b : Bridge} {g : Settings} {n : SlotId} {r : Request} {rest : List CardQueued}

theorem Bridge.cardRefused_of {dest : CardDest}
    (h : (b.slot n).ingress = { txn := .request r, route := .checked dest false } :: rest)
    (fits : ReqBody.fits r.body = true) (admitted : (b.slot n).stage = .admitted) :
    b.cardRefused g n = b.refuseCard g n r := by
  simp [Bridge.cardRefused, Bridge.cardHead_of_cons h, fits, Bridge.isAdmitted_of admitted]

theorem Bridge.malformed_slot_of {route : CardRoute}
    (h : (b.slot n).ingress = { txn := .request r, route := route } :: rest)
    (fits : ReqBody.fits r.body = false) : b.malformed g (.slot n) = b.turnAwayCard n r := by
  simp [Bridge.malformed, Bridge.cardHead_of_cons h, fits]

theorem ReqBody.isMessage_of_not {body : ReqBody} (h : ∀ m, body ≠ .message m) :
    ReqBody.isMessage body = false := by
  cases body with
  | message m => exact absurd rfl (h m)
  | memRead => rfl
  | memWrite => rfl
  | cfgRead => rfl
  | cfgWrite => rfl
  | unknown => rfl

theorem Bridge.cardNotAdmitted_of {route : CardRoute}
    (h : (b.slot n).ingress = { txn := .request r, route := route } :: rest)
    (fits : ReqBody.fits r.body = true) (plain : ∀ m, r.body ≠ .message m)
    (away : (b.slot n).stage ≠ .admitted) : b.cardNotAdmitted n = b.turnAwayCard n r := by
  simp [Bridge.cardNotAdmitted, Bridge.cardHead_of_cons h, fits, ReqBody.isMessage_of_not plain,
    Bridge.isAdmitted_of_ne away]

end NotForwarded

theorem cardRequestRefused : Parts.CardRequestRefused := by
  intro s n r dest rest hq fits admitted taken popped gone alerted final
  have pop : s.bridge.popCard n = popped := Bridge.popCard_of_cons hq
  refine State.actSettled_eq_of (f := fun b g => b.cardRefused g n)
    ((Bridge.cardRefused_of hq fits admitted).trans ?_)
  show s.bridge.refuseCard s.settings n r = gone.violate s.settings n
  unfold Bridge.refuseCard
  cases posted : ReqBody.posted r.body with
  | true => simp only [gone, posted, if_true, pop]
  | false =>
    have free : s.bridge.direct = none := by
      rcases taken with h | h
      · rw [posted] at h; cases h
      · exact h
    simp only [gone, posted, Bool.false_eq_true, if_false, Bridge.handCardHead_of_free free, pop, free,
      Option.isSome_none]

theorem cardRequestTurnedAway : Parts.CardRequestTurnedAway := by
  intro s n r route rest c hq hc b
  have pop : s.bridge.popCard n = b := Bridge.popCard_of_cons hq
  have acts : ∀ d, s.bridge.turnAwayCard n r = d → exec c s = .next (onBridge s d) := by
    intro d h
    rcases hc with ⟨rfl, fits⟩ | ⟨rfl, fits, plain, away⟩
    · exact State.act_eq_of (f := fun b g => b.malformed g (.slot n))
        ((Bridge.malformed_slot_of hq fits).trans h)
    · exact State.act_eq_of (f := fun b _ => b.cardNotAdmitted n)
        ((Bridge.cardNotAdmitted_of hq fits plain away).trans h)
  refine ⟨fun posted => acts _ ?_, fun posted free => acts _ ?_⟩
  · rw [Bridge.turnAwayCard, if_pos posted, pop]
  · rw [Bridge.turnAwayCard, if_neg (by rw [posted]; exact Bool.false_ne_true),
      Bridge.handCardHead_of_free free, pop]

/-- Settles O29: a refused request leaves the head before its violation is reported; the others are turned away
alike. -/
theorem cardRequestsNotForwarded : Obligations.CardRequestsNotForwarded :=
  ⟨cardRequestRefused, cardRequestTurnedAway⟩

end Sys2Proof.Machine
end

section
/-! PROOFS. The completions at the head of a Card Ingress Queue (O30, O31). -/

namespace Sys2Proof.Machine

open Sys2Proof Sys2Proof.Safety

theorem Bridge.matchCard_of {b : Bridge} {g : Settings} {n : SlotId} {c : Completion} {route : CardRoute}
    {rest : List CardQueued} (h : (b.slot n).ingress = { txn := .completion c, route := route } :: rest)
    (free : b.matchBlocked g (.slot n) c = none) :
    b.matchCard g n =
      (b.modSlot n fun x => { x with ingress := rest }).takeMatch g (.slot n) c := by
  simp [Bridge.matchCard, Bridge.cardHeadCompletion_of_cons h, free, Bridge.popCard_of_cons h]

/-! ### What a fitting completion does (R34 to R37) -/

section Fit

variable {b : Bridge} {g : Settings} {i : BridgeTag} {r : EntryRecord} {c : Completion}

/-- A fitting completion of a host request goes, after the offer to the shadow, to the target's upstream queue. -/
theorem Bridge.takeFit_upstream {q : Requester} {n : SlotId} (ho : r.origin = .upstream q)
    (ht : r.target = .slot n) :
    b.takeFit g i r c = ((b.captureAnswered g i r c).advanceEntry i r c).pushUpQueue n
      (.completion (Completion.forRequester c q)) := by
  simp [Bridge.takeFit, EntryRecord.forwardDest, ho, ht, Bridge.pushDest]

theorem EntryRecord.forwardDest_upstream {q : Requester} {n : SlotId} (ho : r.origin = .upstream q)
    (ht : r.target = .slot n) : r.forwardDest = some (.upQueue n) := by
  simp [EntryRecord.forwardDest, ho, ht]

theorem EntryRecord.forwardDest_bridge {purpose : Purpose} (ho : r.origin = .bridge purpose) :
    r.forwardDest = none := by
  simp [EntryRecord.forwardDest, ho]

theorem Bridge.takeFit_bridge {purpose : Purpose} {n : SlotId} (ho : r.origin = .bridge purpose)
    (ht : r.target = .slot n) :
    b.takeFit g i r c = match purpose with
      | .script _ => (b.freeEntry i).scriptAnswer g i c.status c.data
      | .replay _ => (b.freeEntry i).replayAnswer g n i c.status := by
  cases purpose <;> simp [Bridge.takeFit, ho, ht]

/-- A host write that an ADMITTED card answers SUCCESS is offered from its note. -/
theorem Bridge.captureAnswered_offer {q : Requester} {n : SlotId} {m : Note}
    (hw : ∃ t be, r.asked = .cfgWrite t be) (ho : r.origin = .upstream q) (ht : r.target = .slot n)
    (hs : c.status = .success) (ha : (b.slot n).stage = .admitted)
    (hm : b.notes.find? (fun m => decide (m.tag = i)) = some m) :
    b.captureAnswered g i r c
      = (b.offerWrite g m.slot m.bus m.function m.offset m.be m.payload).1 := by
  obtain ⟨t, be, e⟩ := hw
  simp [Bridge.captureAnswered, e, ho, ht, hm, hs, Bridge.isAdmitted_of ha]

/-- Any other completion offers nothing. -/
theorem Bridge.captureAnswered_none {n : SlotId} (ht : r.target = .slot n)
    (h : ¬ ((∃ t be, r.asked = .cfgWrite t be) ∧ c.status = .success ∧ (b.slot n).stage = .admitted) ∨
      b.notes.find? (fun m => decide (m.tag = i)) = none) : b.captureAnswered g i r c = b := by
  unfold Bridge.captureAnswered
  split
  · rename_i t be q m note asked origin target found
    rw [ht] at target
    cases target
    refine if_neg fun k => ?_
    simp only [Bool.and_eq_true, decide_eq_true_eq, Bridge.isAdmitted] at k
    rcases h with h | h
    · exact h ⟨⟨t, be, asked⟩, k⟩
    · rw [h] at found
      cases found
  · rfl

end Fit

theorem cardCompletionForwarded : Parts.CardCompletionForwarded := by
  intro s n c route rest i account q d r hq hid htag hs hc hphase htarget hfits b back advanced toHost
    note captures
  have ht : tagFor s.settings c = some i := (tagFor_eq_some _ c i).2 ⟨hid, htag⟩
  have ho := EntryRecord.isOpen_of hphase
  have hb : b.status i = .inUse account r := hs
  have dest := Bridge.matchDest_of_fit ht (Bridge.peekEntry_clean hs hc) htarget ho hfits
  have stage : (b.slot n).stage = (s.bridge.slot n).stage := by rw [Bridge.slot_modSlot_self]
  have acts : ∀ {d x}, r.forwardDest = some d → s.bridge.destHasRoom d = true →
      b.takeFit s.settings i r c = x →
      exec (.cardCompletionMatch n) s = .next (onBridge s (x.settle s.settings)) := by
    intro d x hd room h
    refine State.actSettled_eq_of (f := fun b g => b.matchCard g n) ?_
    rw [Bridge.matchCard_of hq (Bridge.matchBlocked_of_room (dest.trans hd) room),
      Bridge.takeMatch_clean ht hb hc, if_pos htarget, if_pos ho, if_pos hfits]
    exact h
  refine ⟨fun m horigin room hcap hm => ?_, fun horigin room hcap => ?_, fun a horigin room => ?_⟩
  · refine acts (EntryRecord.forwardDest_upstream horigin htarget) (Bridge.upQueueHasRoom_of room) ?_
    obtain ⟨hw, success, admitted⟩ := hcap
    have kept := SameRooms.offerWrite b s.settings m.slot m.bus m.function m.offset m.be m.payload
    rw [Bridge.takeFit_upstream horigin htarget,
      Bridge.captureAnswered_offer hw horigin htarget success (stage.trans admitted) hm,
      Bridge.advanceEntry_inUse (a := account) (by rw [Bridge.status, kept.ort]; exact hs)]
    rfl
  · refine acts (EntryRecord.forwardDest_upstream horigin htarget) (Bridge.upQueueHasRoom_of room) ?_
    rw [Bridge.takeFit_upstream horigin htarget,
      Bridge.captureAnswered_none htarget (by rw [stage]; exact hcap), Bridge.advanceEntry_inUse hb]
    rfl
  · refine acts (EntryRecord.forwardDest_slot horigin) (Bridge.egressHasRoom_of room) ?_
    rw [Bridge.takeFit_slot horigin, Bridge.advanceEntry_inUse hb]
    rfl

theorem bridgeAnswerDelivered : Parts.BridgeAnswerDelivered := by
  intro s n c route rest i account purpose d r hq hid htag hs hc hphase htarget hfits horigin freed acted
  have ht : tagFor s.settings c = some i := (tagFor_eq_some _ c i).2 ⟨hid, htag⟩
  have ho := EntryRecord.isOpen_of hphase
  have dest : s.bridge.matchDest s.settings (.slot n) c = none :=
    (Bridge.matchDest_of_fit ht (Bridge.peekEntry_clean hs hc) htarget ho hfits).trans
      (EntryRecord.forwardDest_bridge horigin)
  refine State.actSettled_eq_of (f := fun b g => b.matchCard g n) ?_
  rw [Bridge.matchCard_of hq (Bridge.matchBlocked_of_no_dest dest),
    Bridge.takeMatch_clean (b := s.bridge.modSlot n fun x => { x with ingress := rest }) ht hs hc,
    if_pos htarget, if_pos ho, if_pos hfits, Bridge.takeFit_bridge horigin htarget]
  cases purpose <;> rfl

/-- Settles O30: a fitting completion goes by the origin of its entry, after the offer of a host's write. -/
theorem cardCompletionTaken : Obligations.CardCompletionTaken :=
  ⟨cardCompletionForwarded, bridgeAnswerDelivered⟩

theorem cardCompletionNotTaken : Parts.CardCompletionNotTaken := by
  intro s n c route rest hq g b answers unexpected
  have acts : ∀ d, s.bridge.matchDest g (.slot n) c = none → b.takeMatch g (.slot n) c = d →
      answers d := fun d h k =>
    State.actSettled_eq_of (f := fun b g => b.matchCard g n)
      ((Bridge.matchCard_of hq (Bridge.matchBlocked_of_no_dest h)).trans k)
  have no_tag : tagFor g c = none → answers unexpected := fun h =>
    acts _ (Bridge.matchDest_of_no_tag h) (Bridge.takeMatch_of_no_tag h)
  refine ⟨fun h => no_tag (tagFor_of_id_ne h), fun _ h => no_tag (tagFor_of_tag_ge h),
    fun i hid htag => ?_⟩
  have ht : tagFor g c = some i := (tagFor_eq_some g c i).2 ⟨hid, htag⟩
  have not_inUse : (s.bridge.status i).isInUse = false → answers unexpected := fun h =>
    acts _ (Bridge.matchDest_of_not_inUse ht h) (Bridge.takeMatch_of_not_inUse (b := b) ht h)
  refine ⟨fun h => not_inUse (by rw [h]; rfl), fun a h => not_inUse (by rw [h]; rfl),
    fun a r hs hc => ?_⟩
  have misfit := Bridge.matchDest_of_misfit (side := .slot n) ht (Bridge.peekEntry_clean hs hc)
  have hb : b.status i = .inUse a r := hs
  refine ⟨fun hne => acts _ (misfit fun _ k => absurd k hne) ?_,
    fun d htarget hphase hf => acts _ (misfit fun _ _ => hf) ?_, fun htarget held => ?_⟩
  · rw [Bridge.takeMatch_clean ht hb hc, if_neg hne]
    rfl
  · rw [Bridge.takeMatch_clean ht hb hc, if_pos htarget, if_pos (EntryRecord.isOpen_of hphase),
      if_neg (by rw [hf]; exact Bool.false_ne_true)]
    rfl
  · have closed := EntryRecord.isOpen_of_held held
    refine acts _ (misfit fun k => absurd (closed.symm.trans k) Bool.false_ne_true) ?_
    rw [Bridge.takeMatch_clean ht hb hc, if_pos htarget,
      if_neg (by rw [closed]; exact Bool.false_ne_true), Bridge.takeLate_inUse hb]
    rfl

theorem completionFit : Parts.CompletionFit := by
  intro c
  refine ⟨fun addr length delivered => ⟨?_, fun hs hne => ?_, fun h => ?_, ?_⟩,
    fun t be => ⟨?_, rfl, rfl⟩, fun t be => ⟨?_, rfl, rfl⟩⟩
  · cases hs : c.status <;> simp [Asked.fits, hs, and_assoc]
  · simp [Asked.after, hs, hne]
  · rcases h with h | h
    · simp [Asked.after, h]
    · simp [Asked.after, h]
  · simp [Asked.lateFinishes]
  · cases hs : c.status <;> simp [Asked.fits, hs]
  · simp [Asked.fits]

/-- Settles O31: the record that the tag names decides, as for the host, but for a misfit, which is the card's
fault. -/
theorem cardCompletionDropped : Obligations.CardCompletionDropped :=
  ⟨cardCompletionNotTaken, completionFit⟩

end Sys2Proof.Machine
end

section
/-! PROOFS. What leaves the bridge (O32). -/

namespace Sys2Proof.Machine

open Sys2Proof Sys2Proof.Safety

/-! ### The Slot Egress FIFO (R23) -/

section Egress

variable {b : Bridge} {n : SlotId} {x : EgressTxn} {rest : List EgressTxn}

theorem Stage.sends_of {stage : Stage} {source : EgressClass}
    (h : match source with
      | .traffic => stage = .admitted
      | .bridgeRequest => stage = .qualifying ∨ ∃ r, stage = .restoring r
      | .standIn => stage.srst = false) : stage.sends source = true := by
  cases source with
  | traffic => exact decide_eq_true h
  | bridgeRequest => rcases h with rfl | ⟨r, rfl⟩ <;> rfl
  | standIn =>
    rw [Stage.sends, h]
    rfl

theorem Bridge.sendEgress_of {g : Settings} (hq : (b.slot n).egress = x :: rest)
    (up : (b.slot n).linkUp = true) (sends : (b.slot n).stage.sends x.source = true) :
    b.sendEgress g n = b.modSlot n fun y =>
      { y with egress := rest, cardOut := some (Transaction.sentUnder x.txn g) } := by
  have head : b.sendable? n = some x := by simp [Bridge.sendable?, hq, up, sends]
  rw [Bridge.sendEgress, head]
  exact Bridge.modSlot_congr (by rw [hq]; rfl)

end Egress

theorem egressHeadSent : Parts.EgressHeadSent := by
  intro s n x rest hq up allowed sends
  have act : exec (.egressFifoSend n) s = .next (onBridge s (s.bridge.modSlot n fun y =>
      { y with egress := rest, cardOut := some (Transaction.sentUnder x.txn s.settings) })) :=
    State.act_eq_of (f := fun b g => b.sendEgress g n) (Bridge.sendEgress_of hq up (Stage.sends_of allowed))
  refine ⟨fun r hx posted => ?_, fun posted => ?_⟩
  · rw [hx, Transaction.sentUnder, if_neg (by rw [posted]; exact Bool.false_ne_true)] at act
    exact act
  · have same : Transaction.sentUnder x.txn s.settings = x.txn := by
      cases hx : x.txn with
      | request r => rw [Transaction.sentUnder, if_pos (posted r hx)]
      | completion c => rfl
    rw [same] at act
    exact act

/-! ### The arbiter (R165, R168) -/

section Arbiter

variable {b : Bridge} {g : Settings}

theorem Bridge.arbiterGrant_of_cons {t : Transaction} {rest : List Transaction}
    (h : b.bridgeQueue = t :: rest) :
    b.arbiterGrant g = { b with bridgeQueue := rest, linkOut := some (Transaction.ownSent t g) } := by
  simp [Bridge.arbiterGrant, h]

theorem Bridge.arbiterGrant_of_nil (h : b.bridgeQueue = []) :
    b.arbiterGrant g = b.grantAmongSlots g := by
  simp [Bridge.arbiterGrant, h]

theorem Bridge.grantAmongSlots_same (h : (b.slot b.pointer).upQueue ≠ []) (hb : b.burst < g.part.burst) :
    b.grantAmongSlots g = { b.grantSlot g b.pointer with burst := b.burst + 1 } := by
  rw [Bridge.grantAmongSlots, if_pos (by simp [h, hb])]

theorem Bridge.burstEnds (h : (b.slot b.pointer).upQueue = [] ∨ g.part.burst ≤ b.burst) :
    (!(b.slot b.pointer).upQueue.isEmpty && decide (b.burst < g.part.burst)) = false := by
  rcases h with h | h
  · simp [h]
  · simp [Nat.not_lt.2 h]

theorem Bridge.grantAmongSlots_next {n : SlotId}
    (h : (b.slot b.pointer).upQueue = [] ∨ g.part.burst ≤ b.burst)
    (hn : b.nextHolder b.pointer = some n) :
    b.grantAmongSlots g = { b.grantSlot g n with pointer := n, burst := 1 } := by
  rw [Bridge.grantAmongSlots, Bridge.burstEnds h, hn]
  rfl

theorem Bridge.grantAmongSlots_none
    (h : (b.slot b.pointer).upQueue = [] ∨ g.part.burst ≤ b.burst)
    (hn : b.nextHolder b.pointer = none) : b.grantAmongSlots g = b := by
  rw [Bridge.grantAmongSlots, Bridge.burstEnds h, hn]
  rfl

/-- The slots in the cyclic order behind `p`, `p` itself last, by how far each stands behind the first. -/
theorem cyclic_getElem (p n : SlotId) :
    ([p + 1, p + 2, p + 3, p] : List SlotId)[(n - p - 1).val]? = some n := by
  revert p n
  decide

theorem cyclic_index (p : SlotId) (k : Fin 4) :
    ∃ m : SlotId, ([p + 1, p + 2, p + 3, p] : List SlotId)[k.val]? = some m ∧ (m - p - 1).val = k.val := by
  revert p k
  decide

/-- The first slot behind the pointer that holds something. -/
theorem Bridge.nextHolder_of {p n : SlotId} (hn : (b.slot n).upQueue ≠ [])
    (before : ∀ m : SlotId, (m - p - 1).val < (n - p - 1).val → (b.slot m).upQueue = []) :
    b.nextHolder p = some n := by
  obtain ⟨inside, at_n⟩ := List.getElem?_eq_some_iff.1 (cyclic_getElem p n)
  refine List.find?_eq_some_iff_getElem.2 ⟨by simp [hn], (n - p - 1).val, inside, at_n, fun j hj => ?_⟩
  obtain ⟨m, hm, e⟩ := cyclic_index p ⟨j, by omega⟩
  obtain ⟨_, at_m⟩ := List.getElem?_eq_some_iff.1 hm
  simp only at at_m e
  rw [at_m, before m (by omega)]
  rfl

theorem Bridge.nextHolder_none {p : SlotId} (h : ∀ n : SlotId, (b.slot n).upQueue = []) :
    b.nextHolder p = none :=
  List.find?_eq_none.2 fun n _ => by simp [h n]

end Arbiter

theorem arbiterGrantsBySource : Parts.ArbiterGrantsBySource := by
  intro s
  refine ⟨fun c rest hq => ?_, fun r rest hq => ?_, fun hq n => ⟨?_, fun next hn before => ?_⟩,
    fun hq none => ?_⟩
  · exact State.act_eq_of (f := Bridge.arbiterGrant) (Bridge.arbiterGrant_of_cons hq)
  · exact State.act_eq_of (f := Bridge.arbiterGrant) (Bridge.arbiterGrant_of_cons hq)
  · rintro ⟨rfl, holds, burst⟩
    exact State.act_eq_of (f := Bridge.arbiterGrant)
      ((Bridge.arbiterGrant_of_nil hq).trans (Bridge.grantAmongSlots_same holds burst))
  · refine State.act_eq_of (f := Bridge.arbiterGrant) ((Bridge.arbiterGrant_of_nil hq).trans ?_)
    exact Bridge.grantAmongSlots_next next (Bridge.nextHolder_of hn before)
  · refine State.act_unchanged (f := Bridge.arbiterGrant) ((Bridge.arbiterGrant_of_nil hq).trans ?_)
    exact Bridge.grantAmongSlots_none (.inl (none _)) (Bridge.nextHolder_none none)

theorem grantDrainsQueue : Parts.GrantDrainsQueue := by
  intro b g n t rest hq out
  have popped : (b.modSlot n fun s => { s with upQueue := s.upQueue.tail })
      = b.modSlot n fun s => { s with upQueue := rest } := Bridge.modSlot_congr (by rw [hq]; rfl)
  have sent : Transaction.sentUnder t g = out := by
    cases t with
    | request r =>
      show Transaction.request _ = if ReqBody.posted r.body = true then _ else _
      split <;> rfl
    | completion c => rfl
  rw [Bridge.grantSlot, popped, hq, List.head?_cons, Option.map_some, sent]
  rfl

/-- Settles O32: each sender takes the head of its queue; the cyclic order finds the first slot that holds
something. -/
theorem transmitSide : Obligations.TransmitSide := ⟨egressHeadSent, arbiterGrantsBySource, grantDrainsQueue⟩

end Sys2Proof.Machine
end

section
/-! PROOFS. The Stand-in Work List, the direct item and the alerts (O33, O34, O36). -/

namespace Sys2Proof.Machine

open Sys2Proof Sys2Proof.Safety

/-! ### Taking the report of an item that left (R45) -/

section ItemLeft

variable {b : Bridge} {g : Settings} {i : BridgeTag} {a : SlotId} {r : EntryRecord}

theorem OrtWord.outcome_uncorrectable {w : OrtWord} (h : 2 ≤ w.flips + w.stuck) :
    w.outcome = .uncorrectable := by
  unfold OrtWord.outcome readOutcome
  split
  · omega
  · omega
  · rfl

theorem OrtWord.outcome_readable {w : OrtWord} (h : w.flips + w.stuck ≤ 1) :
    w.outcome = .clean ∨ w.outcome = .corrected := by
  unfold OrtWord.outcome readOutcome
  split
  · exact .inl rfl
  · exact .inr rfl
  · omega

theorem Bridge.status_of_ort {b c : Bridge} (h : c.ort = b.ort) (i : BridgeTag) :
    c.status i = b.status i := by
  rw [Bridge.status, h]
  rfl

/-- A readable entry gives its record, and its status stands. -/
theorem Bridge.readEntry_readable (hs : b.status i = .inUse a r)
    (h : (b.ort.get i).flips + (b.ort.get i).stuck ≤ 1) (e : ReadEvent) :
    (b.readEntry g i e).2 = some r ∧ (b.readEntry g i e).1.status i = .inUse a r := by
  rcases OrtWord.outcome_readable h with hc | hc
  · rw [Bridge.readEntry_clean hs hc]
    exact ⟨rfl, hs⟩
  · rw [Bridge.readEntry_corrected hs hc]
    refine ⟨rfl, (Bridge.status_of_ort (Bridge.noteCorrection_ort _ g) i).trans ?_⟩
    rw [Bridge.status, Bridge.ort_setWord_self]
    exact hs

theorem Bridge.status_loseEntry (b : Bridge) (g : Settings) (i : BridgeTag) (a : SlotId) (e : ReadEvent) :
    (b.loseEntry g i a e).status i = .lost a := by
  refine (Bridge.status_of_ort (Bridge.raise_ort _ _ _) i).trans ?_
  show ((b.setWord i { b.ort.get i with status := .lost a }).ort.get i).status = .lost a
  rw [Bridge.ort_setWord_self]

theorem Bridge.itemLeft_pending {c : Bridge} {hold : Time} {listed : Bool}
    (h : b.readEntry g i .itemLeft = (c, some r)) (hp : r.phase = .stoodIn hold listed true) :
    b.itemLeft g i = c.freeEntry i := by
  simp [Bridge.itemLeft, h, hp]

theorem Bridge.itemLeft_held {c : Bridge} {hold : Time} {listed : Bool}
    (h : b.readEntry g i .itemLeft = (c, some r)) (hp : r.phase = .stoodIn hold listed false) :
    b.itemLeft g i = c.putRecord i { r with phase := .stoodIn hold false false } := by
  simp [Bridge.itemLeft, h, hp]

theorem Bridge.itemLeft_of_none {c : Bridge} (h : b.readEntry g i .itemLeft = (c, none)) :
    b.itemLeft g i = c := by
  rw [Bridge.itemLeft, h]

end ItemLeft

theorem itemEnds : Parts.ItemEnds := by
  intro b g i c read word ends
  refine ⟨fun h => Bridge.itemLeft_of_none (Bridge.readEntry_of_not_inUse (b := c) h _),
    fun account r hs => ⟨fun bad => ?_, fun good hold listed => ?_⟩⟩
  · have lost := Bridge.readEntry_uncorrectable (b := c) (g := g) (e := .itemLeft) hs
      (OrtWord.outcome_uncorrectable bad)
    have e : ends = read := (Bridge.itemLeft_of_none lost).trans (congrArg Prod.fst lost).symm
    refine ⟨e, ?_⟩
    rw [e, show read = c.loseEntry g i account .itemLeft from congrArg Prod.fst lost]
    exact c.status_loseEntry g i account _
  · obtain ⟨found, status⟩ := Bridge.readEntry_readable (b := c) (g := g) hs good .itemLeft
    have taken : c.readEntry g i .itemLeft = (read, some r) := Prod.ext rfl found
    refine ⟨fun hp => ?_, fun hp => ?_⟩
    · have e : ends = read.freeEntry i := Bridge.itemLeft_pending taken hp
      exact ⟨e, by rw [e, Bridge.status_freeEntry_self]⟩
    · have e : ends = _ := Bridge.itemLeft_held taken hp
      rw [e, Bridge.putRecord_inUse status]

/-! ### Handing an item on (R63 to R73) -/

section HandOn

variable {b : Bridge} {g : Settings} {x : EntryItem} {r : EntryRecord} {q : Requester} {account : SlotId}

theorem Bridge.eligible_iff (b : Bridge) (x : EntryItem) :
    b.eligible x = true ↔ match x.dest with
      | .host _ drain => drain = 0 ∧ b.bridgeQueue.length < 64
      | .card a => (b.slot a).stage.srst = false ∧ (b.slot a).egress.length < 32 := by
  unfold Bridge.eligible
  cases x.dest with
  | host n drain => simp [bridgeQueueHasRoom_iff]
  | card a => simp [egressHasRoom_iff]

theorem Bridge.standInHandOn_none (h : ∀ y ∈ b.workList, ¬ b.eligible y = true) :
    b.standInHandOn g = b := by
  rw [Bridge.standInHandOn, List.find?_eq_none.2 h]

/-- The earliest eligible item is handed on. -/
theorem Bridge.standInHandOn_of {pre post : List EntryItem} (hl : b.workList = pre ++ x :: post)
    (before : ∀ y ∈ pre, ¬ b.eligible y = true) (h : b.eligible x = true) :
    b.standInHandOn g = b.handOn g x := by
  have found : b.workList.find? b.eligible = some x := by
    rw [hl, List.find?_append, List.find?_eq_none.2 before, Option.none_or, List.find?_cons_of_pos h]
  rw [Bridge.standInHandOn, found]

theorem Bridge.handOn_begun {k : Begun} (h : x.begun = some k) : b.handOn g x = b.handPiece g x k := by
  rw [Bridge.handOn, h]

theorem Bridge.handOn_fresh (hx : x.begun = none) (hs : b.status x.entry = .inUse account r)
    (hc : (b.ort.get x.entry).outcome = .clean) (hq : r.origin.requester = some q) :
    b.handOn g x = b.beginItem g x r q account := by
  simp only [Bridge.handOn, hx, Bridge.readEntry_clean hs hc, hs, EntryStatus.account, hq]

theorem Bridge.beginItem_pieces (h : r.standIn = .pieces) :
    b.beginItem g x r q account = b.handPiece g x
      { requester := q, next := r.asked.firstOwed, stop := r.asked.endOwed,
        counted := r.countedIn account } := by
  rw [Bridge.beginItem, h]

theorem Bridge.beginItem_ones (h : r.standIn = .cfgOnes) :
    b.beginItem g x r q account
      = b.handSingle g x (r.countedIn account) (cfgReadCompletion q 0xFFFFFFFF) := by
  rw [Bridge.beginItem, h]

theorem Bridge.beginItem_single {status : Status} (h : r.standIn = .single status) :
    b.beginItem g x r q account
      = b.handSingle g x (r.countedIn account) (r.asked.singleFor q status) := by
  rw [Bridge.beginItem, h]

end HandOn

/-! ### What an item answers (R68, Table 3-4) -/

section StandIn

variable {r : EntryRecord}

theorem EntryRecord.standIn_memRead_ones {a : Addr} {l d : Nat} (h : r.asked = .memRead a l d)
    (ha : r.answer = some .ones) : r.standIn = .pieces := by
  simp [EntryRecord.standIn, h, ha, FenceAnswer.memAnswer]

theorem EntryRecord.standIn_memRead {a : Addr} {l d : Nat} (h : r.asked = .memRead a l d)
    (ha : r.answer ≠ some .ones) : r.standIn = .single .aborted := by
  unfold EntryRecord.standIn
  rw [h]
  cases e : r.answer with
  | none => rfl
  | some answer =>
    cases answer with
    | ones => exact absurd e ha
    | error => rfl

theorem EntryRecord.standIn_cfgRead_ones {t : CfgTarget} {be : BitVec 4} (h : r.asked = .cfgRead t be)
    (ha : r.answer = some .ones) : r.standIn = .cfgOnes := by
  simp [EntryRecord.standIn, h, ha, FenceAnswer.cfgAnswer]

theorem EntryRecord.standIn_cfgRead {t : CfgTarget} {be : BitVec 4} (h : r.asked = .cfgRead t be)
    (ha : r.answer ≠ some .ones) : r.standIn = .single .aborted := by
  unfold EntryRecord.standIn
  rw [h]
  cases e : r.answer with
  | none => rfl
  | some answer =>
    cases answer with
    | ones => exact absurd e ha
    | error => rfl

theorem EntryRecord.standIn_cfgWrite {t : CfgTarget} {be : BitVec 4} (h : r.asked = .cfgWrite t be) :
    r.standIn = .single .aborted := by
  simp [EntryRecord.standIn, h]

end StandIn

theorem standInItemHandedOn : Parts.StandInItemHandedOn := by
  intro s g ready answers
  have waits : ∀ y, ¬ ready y → ¬ s.bridge.eligible y = true := fun y h => mt (s.bridge.eligible_iff y).1 h
  have acts : ∀ d, s.bridge.standInHandOn g = d → answers d := fun d h =>
    State.actSettled_eq_of (f := Bridge.standInHandOn) h
  refine ⟨fun none => acts _ (Bridge.standInHandOn_none fun y hy => waits y (none y hy)), ?_⟩
  intro pre post x hl before hx counted piece
  have hands : ∀ d, s.bridge.handOn g x = d → answers d := fun d h =>
    acts d ((Bridge.standInHandOn_of hl (fun y hy => waits y (before y hy))
      ((s.bridge.eligible_iff x).2 hx)).trans h)
  have handed : ∀ c n, (s.bridge.handTo c x.dest).countPiece n = counted c n := fun c n => by
    show _ = Bridge.modFault _ n _
    cases x.dest <;> rfl
  have piece_eq : ∀ k, s.bridge.handPiece g x k = piece k := fun k => by
    rw [Bridge.handPiece, handed]
    rfl
  refine ⟨fun k hk => hands _ ((Bridge.handOn_begun hk).trans (piece_eq k)), ?_⟩
  intro account r q fresh hs hc hq n single
  have n_eq : r.countedIn account = n := rfl
  have begins : ∀ d, s.bridge.beginItem g x r q account = d → answers d := fun d h =>
    hands d ((Bridge.handOn_fresh fresh hs hc hq).trans h)
  have single_eq : ∀ c, s.bridge.handSingle g x n c = (counted c n).finishItem g x.entry := fun c => by
    rw [Bridge.handSingle, handed]
  refine ⟨fun a l d ha => ⟨fun ones => begins _ ?_, fun other => begins _ ?_⟩,
    fun t be ha => ⟨fun ones => begins _ ?_, fun other => begins _ ?_⟩, fun t be ha => begins _ ?_⟩
  · rw [Bridge.beginItem_pieces (r.standIn_memRead_ones ha ones), piece_eq, n_eq, ha]
    rfl
  · rw [Bridge.beginItem_single (r.standIn_memRead ha other), n_eq, single_eq, ha]
    rfl
  · rw [Bridge.beginItem_ones (r.standIn_cfgRead_ones ha ones), n_eq, single_eq]
    rfl
  · rw [Bridge.beginItem_single (r.standIn_cfgRead ha other), n_eq, single_eq, ha]
    rfl
  · rw [Bridge.beginItem_single (r.standIn_cfgWrite ha), n_eq, single_eq, ha]
    rfl

theorem standInAnswer : Parts.StandInAnswer := by
  intro r q status
  refine ⟨fun a l d h => ⟨r.standIn_memRead_ones h, fun k => r.standIn_memRead h ?_, by rw [h]; rfl⟩,
    fun t be h => ⟨r.standIn_cfgRead_ones h, fun k => r.standIn_cfgRead h ?_, by rw [h]; rfl⟩,
    fun t be h => ⟨r.standIn_cfgWrite h, by rw [h]; rfl⟩⟩
  · rcases k with k | k <;> rw [k] <;> nofun
  · rw [k]
    nofun

/-- Settles O33: the first ready item is the one found, and its record or what it has begun gives the answer. -/
theorem standInItems : Obligations.StandInItems := ⟨standInItemHandedOn, standInAnswer, itemEnds⟩

/-! ### The direct item (R62, R64, R67, R69) -/

section Direct

variable {b : Bridge} {g : Settings} {d : DirectItem}

theorem Bridge.directReady_iff (b : Bridge) (d : DirectItem) :
    b.directReady d = true ↔ match d.reply with
      | .host => b.bridgeQueue.length < 64
      | .card a => (b.slot a).stage.srst = false ∧ (b.slot a).egress.length < 32 := by
  unfold Bridge.directReady
  cases d.reply with
  | host => simp [bridgeQueueHasRoom_iff]
  | card a => simp [egressHasRoom_iff]

theorem Bridge.directHandOn_of (hd : b.direct = some d) (h : b.directReady d = true) :
    b.directHandOn g = b.directNext g d := by
  simp [Bridge.directHandOn, hd, h]

theorem ReqBody.single_memRead (addr : Addr) (length : Nat) (f l : BitVec 4) :
    ReqBody.singleRemaining (.memRead addr length f l)
        = (if 4 ≤ length ∧ length ≤ 4096 ∧ length % 4 = 0 then length else 4) ∧
      ReqBody.singleLower (.memRead addr length f l)
        = BitVec.ofNat 7 (addr.toNat - addr.toNat % 4) := by
  refine ⟨?_, ?_⟩
  · simp [ReqBody.singleRemaining, lengthFits, and_assoc]
  · rw [ReqBody.singleLower, lowerOf, show 4 * (addr.toNat / 4) = addr.toNat - addr.toNat % 4 by omega]

theorem ReqBody.single_other {body : ReqBody} (h : ∀ addr length f l, body ≠ .memRead addr length f l) :
    ReqBody.singleRemaining body = 4 ∧ ReqBody.singleLower body = 0 := by
  cases body with
  | memRead addr length f l => exact absurd rfl (h addr length f l)
  | memWrite => exact ⟨rfl, rfl⟩
  | cfgRead => exact ⟨rfl, rfl⟩
  | cfgWrite => exact ⟨rfl, rfl⟩
  | message => exact ⟨rfl, rfl⟩
  | unknown => exact ⟨rfl, rfl⟩

end Direct

theorem directItemAnswers : Parts.DirectItemAnswers := by
  intro s d hd g ready placed counted answers
  have handed : ∀ c, s.bridge.handDirect d c = counted c := fun c => by
    simp only [Bridge.handDirect, counted, placed]
    cases d.reply <;> cases d.counted <;> rfl
  have acts : ∀ b, ready → s.bridge.directNext g d = b → answers b := fun b hr h =>
    State.act_eq_of (f := Bridge.directHandOn)
      ((Bridge.directHandOn_of hd ((s.bridge.directReady_iff d).2 hr)).trans h)
  refine ⟨fun hr ha => ?_, fun hr ha => acts _ hr ?_, fun status hr ha => ⟨?_, ?_⟩, ?_⟩
  · intro finish stop after
    have finish_eq : ReqBody.endPosition d.request.body = finish := by
      show _ = match d.request.body with
        | .memRead addr length _ _ => addr.toNat + length
        | .memWrite addr length _ _ _ => addr.toNat + length
        | _ => 0
      cases d.request.body <;> rfl
    refine acts _ hr ?_
    simp only [Bridge.directNext, ha]
    rw [finish_eq, handed]
    rfl
  · simp only [Bridge.directNext, ha]
    rw [handed]
    rfl
  · intro addr length f l hb
    obtain ⟨remaining, lower⟩ := ReqBody.single_memRead addr length f l
    refine acts _ hr ?_
    simp only [Bridge.directNext, ha]
    rw [handed, hb, remaining, lower]
    rfl
  · intro other
    obtain ⟨remaining, lower⟩ := ReqBody.single_other other
    refine acts _ hr ?_
    simp only [Bridge.directNext, ha]
    rw [handed, remaining, lower]
    rfl
  · intro a hreply reach
    refine State.act_eq_of (f := Bridge.directTimeout) ?_
    have due : s.bridge.directDue s.settings = true := by simp [Bridge.directDue, hd, hreply, reach]
    rw [Bridge.directTimeout, if_pos due]
    rfl

theorem directItemOccupied : Parts.DirectItemOccupied := by
  intro b r reply answer counted item
  have first : ReqBody.firstPosition r.body = item.next := by
    show _ = match r.body with
      | .memRead addr _ _ _ => addr.toNat
      | .memWrite addr _ _ _ _ => addr.toNat
      | _ => 0
    cases r.body <;> rfl
  rw [Bridge.occupyDirect, first]

/-- Settles O34: the item's answer and destination say what is handed on next. -/
theorem directItemHandedOn : Obligations.DirectItemHandedOn := ⟨directItemOccupied, directItemAnswers⟩

end Sys2Proof.Machine
end

section
/-! PROOFS. The alerts (O36), the expiry of a deadline (O38) and protected reads (O39). -/

namespace Sys2Proof.Machine

open Sys2Proof Sys2Proof.Safety

/-! ### Pending flags (R171, R173) -/

theorem SlotAlert.bit_lt (k : SlotAlert) : k.bit < 8 := by cases k <;> decide

theorem PartAlert.bit_lt (k : PartAlert) : k.bit < 2 := by cases k <;> decide

theorem SlotAlert.bit_injective : ∀ {k j : SlotAlert}, k.bit = j.bit → k = j := by
  intro k j
  cases k <;> cases j <;> decide

theorem PartAlert.bit_injective : ∀ {k j : PartAlert}, k.bit = j.bit → k = j := by
  intro k j
  cases k <;> cases j <;> decide

/-- A set bit of a word of flags, and every other one. -/
theorem getLsbD_or_bit {w : Nat} (flags : BitVec w) {k j : Nat} (hj : j < w) :
    (flags ||| BitVec.ofNat w (2 ^ k)).getLsbD j = (flags.getLsbD j || decide (k = j)) := by
  rw [BitVec.getLsbD_or, BitVec.getLsbD_ofNat, Nat.testBit_two_pow]
  simp [hj]

section Flags

variable (b : Bridge) (g : Settings) (p q : AlertPair)

theorem Bridge.flagSet_setFlag : (b.setFlag p).flagSet q = (b.flagSet q || decide (q = p)) := by
  cases p with
  | slot n k =>
    cases q with
    | slot m j =>
      simp only [Bridge.flagSet, Bridge.setFlag, Bridge.slot_modSlot]
      by_cases e : m = n
      · subst e
        rw [if_pos rfl, getLsbD_or_bit _ j.bit_lt]
        refine congrArg _ (decide_eq_decide.2 ⟨fun h => ?_, fun h => ?_⟩)
        · rw [SlotAlert.bit_injective h]
        · cases h; rfl
      · rw [if_neg e]
        simp [e]
    | part j => simp [Bridge.flagSet, Bridge.setFlag]
  | part k =>
    cases q with
    | slot m j =>
      simp only [Bridge.flagSet, Bridge.setFlag]
      exact (Bool.or_false _).symm
    | part j =>
      simp only [Bridge.flagSet, Bridge.setFlag]
      rw [getLsbD_or_bit _ j.bit_lt]
      refine congrArg _ (decide_eq_decide.2 ⟨fun h => ?_, fun h => ?_⟩)
      · rw [PartAlert.bit_injective h]
      · cases h; rfl

theorem Bridge.flagSet_oweWrite : (b.oweWrite g p).flagSet q = b.flagSet q := by
  unfold Bridge.oweWrite
  split
  · cases q <;> rfl
  · rfl

theorem Bridge.flagSet_raise : (b.raise g p).flagSet q = (b.flagSet q || decide (q = p)) := by
  unfold Bridge.raise
  split
  · rename_i h
    by_cases e : q = p
    · rw [e, h]
      rfl
    · simp [e]
  · rw [Bridge.flagSet_oweWrite, Bridge.flagSet_setFlag]

theorem Bridge.flagSet_raise_self : (b.raise g p).flagSet p = true := by
  simp [Bridge.flagSet_raise]

end Flags

theorem AlertPair.sendable_iff (p : AlertPair) (g : Settings) :
    p.sendable g = true ↔ p.enabled g = true ∧ g.alert.address ≠ 0 := by
  simp [AlertPair.sendable]

theorem Bridge.oweWrite_sendList (b : Bridge) (g : Settings) (p : AlertPair) :
    (b.oweWrite g p).sendList
      = if p.enabled g = true ∧ g.alert.address ≠ 0 ∧ p ∉ b.sendList then b.sendList ++ [p]
        else b.sendList := by
  have owed : (p.sendable g && !(b.sendList.contains p)) = true ↔
      p.enabled g = true ∧ g.alert.address ≠ 0 ∧ p ∉ b.sendList := by
    rw [Bool.and_eq_true, p.sendable_iff, and_assoc]
    simp
  unfold Bridge.oweWrite
  by_cases h : p.enabled g = true ∧ g.alert.address ≠ 0 ∧ p ∉ b.sendList
  · rw [if_pos (owed.2 h), if_pos h]
  · rw [if_neg (mt owed.1 h), if_neg h]

theorem alertRaised : Parts.AlertRaised := by
  intro b g p
  refine ⟨b.flagSet_raise_self g p, fun q hq => ?_, fun h => if_pos h, fun h => ?_⟩
  · rw [Bridge.flagSet_raise]
    simp [hq]
  · have same : (b.setFlag p).sendList = b.sendList := by cases p <;> rfl
    rw [Bridge.raise, if_neg (by rw [h]; exact Bool.false_ne_true), Bridge.oweWrite_sendList, same]

theorem alertWriteFormed : Parts.AlertWriteFormed := by
  intro s p rest hl room sendable
  have head : s.bridge.formAlert s.settings = if p.sendable s.settings then
      ({ s.bridge with
        sendList := rest
        env := { s.bridge.env with draws := s.bridge.env.draws + 1 } }).pushBridgeQueue
        (.request (alertWrite s.settings p s.bridge.env.draws))
      else { s.bridge with sendList := rest } := by
    simp only [Bridge.formAlert, hl, Bridge.bridgeQueueHasRoom_of room, if_true]
  refine ⟨fun h => ⟨Config.alertWriteTag s.bridge.env.draws, ?_⟩, fun h => ?_⟩
  · rw [if_pos ((p.sendable_iff _).2 h)] at head
    exact State.act_eq_of (f := Bridge.formAlert) head
  · rw [if_neg (mt (p.sendable_iff _).1 h)] at head
    exact State.act_eq_of (f := Bridge.formAlert) head

/-- Settles O36: a raised kind sets its one bit, and owes a write by the three tests. -/
theorem alertsRaisedAndWritten : Obligations.AlertsRaisedAndWritten := ⟨alertWriteFormed, alertRaised⟩

/-! ### The expiry of a deadline (R55, Table 3-2) -/

section Expiry

variable {b : Bridge} {g : Settings} {i : BridgeTag} {account : SlotId} {r : EntryRecord}

theorem EntryStatus.isOpen_of {d : Time} (h : r.phase = .opened d) :
    (EntryStatus.inUse account r).isOpen = true := by
  simp [EntryStatus.isOpen, h]

theorem Bridge.examineDeadline_of {d : Time} (hs : b.status i = .inUse account r)
    (hc : (b.ort.get i).outcome = .clean) (hp : r.phase = .opened d) (reach : reached b.now d = true) :
    b.examineDeadline g i = b.expire g i r := by
  have due : r.deadlineReached b.now = true := by simp [EntryRecord.deadlineReached, hp, reach]
  simp only [Bridge.examineDeadline, hs, EntryStatus.isOpen_of hp, if_true,
    Bridge.readEntry_clean hs hc, due]

/-- The bridge with an entry STOOD-IN from now on and its item at the end of the list. -/
def Bridge.stoodInWith (b : Bridge) (g : Settings) (i : BridgeTag) (account : SlotId) (r : EntryRecord)
    (dest : ItemDest) : Bridge :=
  { (b.putStatus i (.inUse account
      { r with phase := .stoodIn (b.now + msec g.part.holdLimit) true false })).dropNote i with
    workList := b.workList ++ [{ entry := i, dest := dest, begun := none }] }

theorem Bridge.standInEntry_inUse (hs : b.status i = .inUse account r) :
    b.standInEntry g i r = (b.putStatus i (.inUse account
      { r with phase := .stoodIn (b.now + msec g.part.holdLimit) true false })).dropNote i := by
  rw [Bridge.standInEntry, Bridge.putRecord_inUse hs]
  rfl

theorem Bridge.itemFor_host {q : Requester} {n : SlotId} (ho : r.origin = .upstream q)
    (ht : r.target = .slot n) :
    b.itemFor i r = some { entry := i, dest := .host n (b.slot n).upQueue.length, begun := none } := by
  simp [Bridge.itemFor, ho, ht]

theorem Bridge.itemFor_card {q : Requester} {a : SlotId} (ho : r.origin = .slot a q) :
    b.itemFor i r = some { entry := i, dest := .card a, begun := none } := by
  simp [Bridge.itemFor, ho]

theorem Bridge.listItem_of {x : EntryItem} (h : b.itemFor i r = some x) :
    b.listItem i r = { b with workList := b.workList ++ [x] } := by
  rw [Bridge.listItem, h]

theorem Bridge.expireToStandIn_host {q : Requester} {n : SlotId} (hs : b.status i = .inUse account r)
    (ho : r.origin = .upstream q) (ht : r.target = .slot n) :
    b.expireToStandIn g i r
      = b.stoodInWith g i account r (.host n (b.slot n).upQueue.length) := by
  rw [Bridge.expireToStandIn, Bridge.standInEntry_inUse hs, Bridge.listItem_of (Bridge.itemFor_host ho ht)]
  rfl

theorem Bridge.expireToStandIn_card {q : Requester} {a : SlotId} (hs : b.status i = .inUse account r)
    (ho : r.origin = .slot a q) :
    b.expireToStandIn g i r = b.stoodInWith g i account r (.card a) := by
  rw [Bridge.expireToStandIn, Bridge.standInEntry_inUse hs, Bridge.listItem_of (Bridge.itemFor_card ho)]
  rfl

theorem Bridge.tellExpired_replay {n : SlotId} {p : Nat} {x : Replay}
    (stage : (b.slot n).stage = .restoring x) (ha : x.activity = .awaitAnswer i) :
    b.tellExpired g n i (.replay p) = b.replayExpired g n := by
  simp [Bridge.tellExpired, stage, Stage.replay, ha]

end Expiry

/-- Settles O38: Table 3-2, a row at a time. -/
theorem deadlineExpiryTaken : Obligations.DeadlineExpiryTaken := by
  intro s i account d r hs hc hp reach g held stood listed counted suspected answers
  have acts : ∀ b, s.bridge.expire g i r = b → answers b := fun b h =>
    State.actSettled_eq_of (f := fun b g => b.examineDeadline g i)
      ((Bridge.examineDeadline_of hs hc hp reach).trans h)
  have suspect : ∀ (b : Bridge) (n : SlotId), b.now = s.bridge.now → b.suspect g n = suspected b n :=
    fun b n e => by
      rw [Bridge.suspect, e]
      rfl
  refine ⟨fun q n ho ht => acts _ ?_, fun a q n ho ht => acts _ ?_, fun a q ho ht => acts _ ?_,
    fun k n ho ht => acts _ ?_, fun p n x ho ht stage ha => acts _ ?_⟩
  · simp only [Bridge.expire, ho, ht]
    rw [Bridge.expireToStandIn_host hs ho ht]
    exact suspect _ n rfl
  · simp only [Bridge.expire, ho, ht]
    rw [Bridge.expireToStandIn_card hs ho]
    exact suspect _ n rfl
  · simp only [Bridge.expire, ho, ht]
    rw [Bridge.expireToStandIn_card hs ho]
    rfl
  · simp only [Bridge.expire, ho, ht]
    rfl
  · simp only [Bridge.expire, ho, ht]
    refine Bridge.tellExpired_replay (x := x) ?_ ha
    rw [Bridge.countExpiry, Bridge.modFault, Bridge.slot_modSlot_self]
    exact stage

/-! ### Protected reads (R177 to R181) -/

theorem correctionCounted : Parts.CorrectionCounted := by
  intro b g counted
  have later : b.log.announced = true → b.noteCorrection g = counted := fun h => by
    rw [Bridge.noteCorrection, if_pos h]
    show { b with log := { b.log with corrected := min (b.log.corrected + 1) 65535 } }
      = { b with log := { b.log with corrected := min (b.log.corrected + 1) 65535, announced := true } }
    rw [← h]
  refine ⟨fun h => if_neg (by rw [h]; exact Bool.false_ne_true), fun h => ⟨later h, fun p => ?_, ?_⟩⟩
  · rw [later h]
    cases p <;> rfl
  · rw [later h]

theorem ErrorLog.report_first {l : ErrorLog} (h : l.latched = none) (e : Latched) :
    l.report e = { l with latched := some e } := by
  rw [ErrorLog.report, h]

theorem ErrorLog.report_later {l : ErrorLog} (h : l.latched ≠ none) (e : Latched) :
    l.report e = { l with overflow := min (l.overflow + 1) 255 } := by
  unfold ErrorLog.report
  split
  · rename_i k; exact absurd k h
  · rfl

theorem uncorrectableReported : Parts.UncorrectableReported := by
  intro b g word n e reported
  refine ⟨fun h => ?_, fun h => ?_⟩
  · rw [Bridge.noteUncorrectable, ErrorLog.report_first h]
  · rw [Bridge.noteUncorrectable, ErrorLog.report_later h]

theorem OrtWord.outcome_clean {w : OrtWord} (h : w.flips + w.stuck = 0) : w.outcome = .clean := by
  rw [OrtWord.outcome, h]
  rfl

theorem OrtWord.outcome_corrected {w : OrtWord} (h : w.flips + w.stuck = 1) : w.outcome = .corrected := by
  rw [OrtWord.outcome, h]
  rfl

/-- The log after a corrected read. -/
theorem Bridge.noteCorrection_log (b : Bridge) (g : Settings) :
    (b.noteCorrection g).log
      = { b.log with corrected := min (b.log.corrected + 1) 65535, announced := true } := by
  obtain ⟨first, later⟩ := correctionCounted b g
  cases h : b.log.announced with
  | false => rw [first h, Bridge.raise_log]
  | true => rw [(later h).1]

theorem entryRead : Parts.EntryRead := by
  intro b g i account r e hs w
  refine ⟨fun h => Bridge.readEntry_clean hs (OrtWord.outcome_clean h), fun h => ?_, fun h => ?_⟩
  · have read := Bridge.readEntry_corrected (g := g) (e := e) hs (OrtWord.outcome_corrected h)
    rw [read]
    refine ⟨rfl, rfl, ?_, ?_, fun first => ?_⟩
    · rw [Bridge.noteCorrection_log]
      rfl
    · rw [Bridge.noteCorrection_log]
    · have announce := (correctionCounted (b.setWord i { w with flips := 0 }) g).1 first
      show ((b.setWord i { w with flips := 0 }).noteCorrection g).flagSet _ = true
      rw [announce, Bridge.flagSet_raise_self]
  · have read := Bridge.readEntry_uncorrectable (g := g) (e := e) hs (OrtWord.outcome_uncorrectable h)
    rw [read]
    refine ⟨rfl, rfl, b.status_loseEntry g i account e, fun j hj => ?_, ?_, fun first => ?_, fun later => ?_⟩
    · show (Bridge.raise _ g _).ort.get j = b.ort.get j
      rw [Bridge.raise_ort]
      exact b.ort_setWord_ne _ hj
    · exact Bridge.flagSet_raise_self _ g _
    · show (Bridge.raise _ g _).log.latched = _
      rw [Bridge.raise_log]
      show (ErrorLog.report b.log _).latched = _
      rw [ErrorLog.report_first first]
      rfl
    · show (Bridge.raise _ g _).log.latched = _ ∧ (Bridge.raise _ g _).log.overflow = _
      rw [Bridge.raise_log]
      show (ErrorLog.report b.log _).latched = _ ∧ (ErrorLog.report b.log _).overflow = _
      rw [ErrorLog.report_later later]
      exact ⟨rfl, rfl⟩

/-- Settles O39: the number of bad bits chooses the outcome, and the log and the flags take it from there. -/
theorem protectedEntryRead : Obligations.ProtectedEntryRead :=
  ⟨correctionCounted, uncorrectableReported, entryRead⟩

end Sys2Proof.Machine
end

section
/-! PROOFS. The other timers of the monitor (O40) and the accounts (O41). -/

namespace Sys2Proof.Machine

open Sys2Proof Sys2Proof.Safety

/-! ### Holds, quiet intervals and the stall (R24, R44, R59) -/

section Hold

variable {b : Bridge} {g : Settings} {i : BridgeTag} {account : SlotId} {r : EntryRecord}

theorem EntryStatus.isHeld_of (h : ∀ d, r.phase ≠ .opened d) :
    (EntryStatus.inUse account r).isHeld = true := by
  unfold EntryStatus.isHeld EntryStatus.isOpen EntryStatus.isInUse
  cases e : r.phase with
  | opened d => exact absurd e (h d)
  | stoodIn hold listed pending => simp [e]
  | orphaned hold => simp [e]

theorem Bridge.examineHold_of (hs : b.status i = .inUse account r)
    (hc : (b.ort.get i).outcome = .clean) (held : ∀ d, r.phase ≠ .opened d)
    (due : r.holdReached b.now = true) : b.examineHold g i = b.releaseEntry i r := by
  simp only [Bridge.examineHold, hs, EntryStatus.isHeld_of held, if_true, Bridge.readEntry_clean hs hc,
    due]

/-- A STOOD-IN entry with its item LISTED takes release pending. -/
theorem Bridge.releaseEntry_listed_eq {hold : Time} {pending : Bool} (hs : b.status i = .inUse account r)
    (hp : r.phase = .stoodIn hold true pending) :
    b.releaseEntry i r
      = b.putStatus i (.inUse account { r with phase := .stoodIn hold true true }) := by
  simp [Bridge.releaseEntry, hp, Bridge.putRecord_inUse hs]

end Hold

theorem holdExpiryReleases : Parts.HoldExpiryReleases := by
  intro s i account hold pending r hs hc reach answers
  have acts : ∀ d, (∀ t, r.phase ≠ .opened t) → r.holdReached s.bridge.now = true →
      s.bridge.releaseEntry i r = d → answers d := fun d held due h =>
    State.actSettled_eq_of (f := fun b g => b.examineHold g i)
      ((Bridge.examineHold_of hs hc held due).trans h)
  refine ⟨fun hp => ?_, fun hp => ?_, fun hp => ?_⟩
  · exact acts _ (by rw [hp]; nofun) (by rw [EntryRecord.holdReached, hp]; exact reach)
      (Bridge.releaseEntry_listed_eq hs hp)
  · exact acts _ (by rw [hp]; nofun) (by rw [EntryRecord.holdReached, hp]; exact reach)
      (Bridge.releaseEntry_left hp)
  · exact acts _ (by rw [hp]; nofun) (by rw [EntryRecord.holdReached, hp]; exact reach)
      (Bridge.releaseEntry_orphaned hp)

theorem suspicionDecays : Parts.SuspicionDecays := fun s n above reach =>
  State.act_eq_of (f := fun b g => b.quietDecrement g n)
    (if_pos ((Bridge.quietDue_iff s.bridge s.settings n).2 ⟨above, reach⟩))

theorem headStallReported : Parts.HeadStallReported := by
  intro s st hst waits reach again b
  obtain ⟨m, hm⟩ := waits
  refine State.actSettled_eq_of (f := Bridge.headStall) ?_
  have due : s.bridge.stallDue s.settings = some st.slot := by
    simp [Bridge.stallDue, hst, hm, reach]
  simp only [Bridge.headStall, due]
  rfl

/-! ### What the head waits on (R24; log 16) -/

section Waits

variable {b : Bridge} {g : Settings}

theorem Bridge.egressHasRoom_eq_false_iff (b : Bridge) (n : SlotId) :
    b.egressHasRoom n = false ↔ 32 ≤ (b.slot n).egress.length := by
  rw [Bool.eq_false_iff, Ne, egressHasRoom_iff, Nat.not_lt]

theorem Bridge.requestWaitsOn_iff (b : Bridge) (g : Settings) (r : Request) (m n : SlotId) :
    b.requestWaitsOn g r m = some n ↔ m = n ∧
      if ReqBody.fits r.body = true ∧ (b.slot n).stage = .admitted then
        32 ≤ (b.slot n).egress.length ∨ (ReqBody.posted r.body = false ∧ b.offeredEntry g n = none)
      else ReqBody.posted r.body = false ∧ b.direct ≠ none := by
  by_cases e : m = n
  · subst e
    unfold Bridge.requestWaitsOn
    by_cases h : ReqBody.fits r.body = true ∧ (b.slot m).stage = .admitted
    · rw [if_pos (by rw [h.1, Bridge.isAdmitted_of h.2]; rfl), if_pos h, ← Bridge.egressHasRoom_eq_false_iff]
      cases b.egressHasRoom m with
      | false => simp
      | true => simp
    · rw [if_neg (by rw [Bool.and_eq_true, Bridge.isAdmitted, decide_eq_true_eq]; exact h), if_neg h]
      simp [Option.isSome_iff_ne_none]
  · refine ⟨fun h => ?_, fun h => absurd h.1 e⟩
    unfold Bridge.requestWaitsOn at h
    split at h
    · split at h
      · exact absurd (Option.some.inj h) e
      · split at h
        · exact absurd (Option.some.inj h) e
        · cases h
    · split at h
      · exact absurd (Option.some.inj h) e
      · cases h

theorem Bridge.headWaitsOn_request {r : Request} {route : HostRoute} {rest : List HostQueued}
    (h : b.upIngress = { txn := .request r, route := route } :: rest) (n : SlotId) :
    b.headWaitsOn g = some n ↔ ∃ m answer, route = .slot m answer ∧ b.requestWaitsOn g r m = some n := by
  cases route with
  | slot m answer => simp [Bridge.headWaitsOn, h]
  | management => simp [Bridge.headWaitsOn, h]
  | unrouted => simp [Bridge.headWaitsOn, h]
  | byTag => simp [Bridge.headWaitsOn, h]

theorem Bridge.headWaitsOn_completion {c : Completion} {route : HostRoute} {rest : List HostQueued}
    (h : b.upIngress = { txn := .completion c, route := route } :: rest) (n : SlotId) :
    b.headWaitsOn g = some n ↔ b.matchBlocked g .upstream c = some (.egress n) := by
  simp only [Bridge.headWaitsOn, h]
  split
  · rename_i e; rw [e]; simp
  · rename_i e; rw [e]; simp
  · rename_i e; rw [e]; simp

theorem Bridge.matchBlocked_iff (side : Side) (c : Completion) (d : ForwardDest) :
    b.matchBlocked g side c = some d ↔ b.matchDest g side c = some d ∧ b.destHasRoom d = false := by
  cases h : b.matchDest g side c with
  | none => simp [Bridge.matchBlocked, h]
  | some x =>
    cases room : b.destHasRoom x with
    | true =>
      rw [Bridge.matchBlocked_of_room h room]
      refine ⟨nofun, fun ⟨k, full⟩ => ?_⟩
      cases k
      rw [room] at full
      cases full
    | false =>
      rw [Bridge.matchBlocked_of_full h room]
      exact ⟨fun k => ⟨k, Option.some.inj k ▸ room⟩, And.left⟩

theorem Bridge.matchDest_iff (side : Side) (c : Completion) (d : ForwardDest) :
    b.matchDest g side c = some d ↔ ∃ i r, tagFor g c = some i ∧ b.peekEntry i = some r ∧
      r.isOpen = true ∧ r.target = side ∧ r.asked.fits c = true ∧ r.forwardDest = some d := by
  refine ⟨fun h => ?_, ?_⟩
  · unfold Bridge.matchDest at h
    split at h
    · rename_i i ht
      split at h
      · rename_i r hp
        split at h
        · rename_i k
          simp only [Bool.and_eq_true, decide_eq_true_eq] at k
          obtain ⟨⟨ho, hs⟩, hf⟩ := k
          exact ⟨i, r, ht, hp, ho, hs, hf, h⟩
        · cases h
      · cases h
    · cases h
  · rintro ⟨i, r, ht, hp, ho, hs, hf, h⟩
    rw [Bridge.matchDest_of_fit ht hp hs ho hf, h]

theorem EntryRecord.forwardDest_egress_iff {r : EntryRecord} (ht : r.target = .upstream) (n : SlotId) :
    r.forwardDest = some (.egress n) ↔ ∃ q, r.origin = .slot n q := by
  unfold EntryRecord.forwardDest
  rw [ht]
  cases r.origin with
  | upstream q => simp
  | slot a q => simp
  | bridge p => simp

theorem EntryRecord.isOpen_iff (r : EntryRecord) : r.isOpen = true ↔ ∃ d, r.phase = .opened d := by
  unfold EntryRecord.isOpen
  cases r.phase <;> simp

end Waits

theorem headWaitsOnSlot : Parts.HeadWaitsOnSlot := by
  intro b g full
  refine ⟨fun h => by simp [Bridge.headWaitsOn, h], fun r route rest n hq => ?_, fun c route rest n hq => ?_⟩
  · rw [Bridge.headWaitsOn_request hq]
    constructor
    · rintro ⟨m, answer, hroute, h⟩
      obtain ⟨rfl, h⟩ := (b.requestWaitsOn_iff g r m n).1 h
      exact ⟨⟨answer, hroute⟩, h⟩
    · rintro ⟨⟨answer, hroute⟩, h⟩
      exact ⟨n, answer, hroute, (b.requestWaitsOn_iff g r n n).2 ⟨rfl, h⟩⟩
  · rw [Bridge.headWaitsOn_completion hq, Bridge.matchBlocked_iff, Bridge.matchDest_iff]
    constructor
    · rintro ⟨⟨i, r, ht, hp, ho, hs, hf, hd⟩, room⟩
      obtain ⟨hid, htag⟩ := (tagFor_eq_some g c i).1 ht
      obtain ⟨⟨account, status⟩, readable⟩ := (b.peekEntry_eq_some i r).1 hp
      obtain ⟨d, phase⟩ := r.isOpen_iff.1 ho
      obtain ⟨q, origin⟩ := (EntryRecord.forwardDest_egress_iff hs n).1 hd
      exact ⟨(b.egressHasRoom_eq_false_iff n).1 room, hid, i, account, r, d, q, htag, status, readable,
        phase, origin, hs, hf⟩
    · rintro ⟨room, hid, i, account, r, d, q, htag, status, readable, phase, origin, hs, hf⟩
      exact ⟨⟨i, r, (tagFor_eq_some g c i).2 ⟨hid, htag⟩,
        (b.peekEntry_eq_some i r).2 ⟨⟨account, status⟩, readable⟩, r.isOpen_iff.2 ⟨d, phase⟩, hs, hf,
        (EntryRecord.forwardDest_egress_iff hs n).2 ⟨q, origin⟩⟩, (b.egressHasRoom_eq_false_iff n).2 room⟩

theorem stallNoted : Parts.StallNoted := by
  refine fun b g => ⟨fun h => ?_, fun n h => Bridge.noteStall_of_waits h⟩
  unfold Bridge.noteStall
  rw [h]
  cases e : b.stall with
  | none =>
    show b = { b with stall := none }
    rw [← e]
  | some x => rfl

/-- Settles O40: each timer's guard is the condition of the statement; a match that is blocked names its card. -/
theorem monitorTimers : Obligations.MonitorTimers :=
  ⟨holdExpiryReleases, suspicionDecays, headStallReported, headWaitsOnSlot, stallNoted⟩

/-! ### The accounts (R27, R28, R30) -/

theorem Bridge.inUseCount_eq (b : Bridge) (m : SlotId) :
    ((List.finRange 256).filter fun i => match b.status i with
      | .free => false
      | .inUse a _ => decide (a = m)
      | .lost a => decide (a = m)).length = b.inUseCount m := by
  refine congrArg List.length (List.filter_congr fun i _ => ?_)
  cases b.status i <;> simp [EntryStatus.account]

theorem Bridge.available_iff (b : Bridge) (g : Settings) (n : SlotId) :
    b.available g n = true ↔ b.inUseCount n < g.quotas n ∨ b.poolUse g.quotas < sharedPool g.quotas := by
  rw [Bridge.available, Bool.or_eq_true, decide_eq_true_eq, decide_eq_true_eq]
  rfl

theorem entryAvailable : Parts.EntryAvailable := by
  intro b g n quota used excess
  have count : ∀ m, used m = b.inUseCount m := b.inUseCount_eq
  refine ⟨?_, fun h => ?_⟩
  · rw [Bridge.available_iff]
    simp only [excess, count]
    rfl
  · rw [Bridge.offeredEntry, h]
    rfl

/-- The four accounts hold between them the indexes that are not FREE. -/
theorem sum_accounts (b : Bridge) (tags : List BridgeTag) :
    sumSlots (fun n => (tags.filter fun i => decide ((b.status i).account = some n)).length)
      = (tags.filter fun i => !(b.status i).isFree).length := by
  induction tags with
  | nil => rfl
  | cons i tags ih =>
    unfold sumSlots at ih ⊢
    beta_reduce at ih ⊢
    have one : ∀ n : SlotId, ((i :: tags).filter fun i => decide ((b.status i).account = some n)).length
        = (if (b.status i).account = some n then 1 else 0)
          + (tags.filter fun i => decide ((b.status i).account = some n)).length := fun n => by
      rw [List.filter_cons]
      by_cases e : (b.status i).account = some n
      · simp [e, Nat.add_comm]
      · simp [e]
    have here : (if (b.status i).account = some 0 then 1 else 0) + (if (b.status i).account = some 1 then 1 else 0)
        + (if (b.status i).account = some 2 then 1 else 0) + (if (b.status i).account = some 3 then 1 else 0)
        = if (b.status i).isFree then 0 else 1 := by
      have owner : ∀ a : SlotId, (if some a = some 0 then 1 else 0) + (if some a = some 1 then 1 else 0)
          + (if some a = some 2 then 1 else 0) + (if some a = some 3 then 1 else 0) = 1 := by decide
      cases b.status i with
      | free => rfl
      | inUse a r => exact owner a
      | lost a => exact owner a
    have all : ((i :: tags).filter fun i => !(b.status i).isFree).length
        = (if (b.status i).isFree then 0 else 1) + (tags.filter fun i => !(b.status i).isFree).length := by
      rw [List.filter_cons]
      cases (b.status i).isFree <;> simp [Nat.add_comm]
    rw [one, one, one, one, all, ← here]
    omega

/-- With no FREE index the accounts hold all 256. -/
theorem Bridge.sum_inUseCount_of_none_free {b : Bridge} (h : b.lowestFree = none) :
    sumSlots b.inUseCount = 256 := by
  have busy : ∀ i ∈ allTags, (!(b.status i).isFree) = true := fun i hi => by
    have := List.find?_eq_none.1 h i hi
    simpa using this
  show sumSlots (fun n => (allTags.filter fun i => decide ((b.status i).account = some n)).length) = 256
  rw [sum_accounts, List.filter_eq_self.2 busy]
  exact List.length_finRange

/-- Under the law of the accounts an available entry is a FREE index. -/
theorem Bridge.lowestFree_of_available {s : State} (law : PoolLaw s) {n : SlotId}
    (h : s.bridge.available s.settings n = true) : s.bridge.lowestFree ≠ none := by
  intro none
  have all := Bridge.sum_inUseCount_of_none_free none
  obtain ⟨⟨-, -, slots, -⟩, pool⟩ := law
  rw [Bridge.available_iff] at h
  have quota : ∀ m, s.settings.quotas m ≤ 48 := fun m => by
    obtain ⟨-, ⟨-, -, -, -, quota, -⟩, -⟩ := slots m
    exact quota
  change s.bridge.poolUse s.settings.quotas ≤ sharedPool s.settings.quotas at pool
  simp only [Bridge.poolUse, sharedPool, sumSlots, Config.ortEntries] at pool h all
  have q0 := quota 0
  have q1 := quota 1
  have q2 := quota 2
  have q3 := quota 3
  match n with
  | 0 => omega
  | 1 => omega
  | 2 => omega
  | 3 => omega

theorem finRange_getElem_val {n k : Nat} (h : k < (List.finRange n).length) :
    ((List.finRange n)[k]).val = k := by
  rw [List.getElem_finRange]
  rfl

theorem allTags_getElem {k : Nat} (h : k < allTags.length) : (allTags[k]).val = k :=
  finRange_getElem_val (n := 256) h

theorem freeEntryOffered : Parts.FreeEntryOffered := by
  intro s n law h
  obtain ⟨i, hi⟩ := Option.ne_none_iff_exists'.1 (Bridge.lowestFree_of_available law h)
  refine ⟨i, by rw [Bridge.offeredEntry, if_pos h, hi], ?_, fun j hj e => ?_⟩
  · have free := List.find?_some (p := fun i => (s.bridge.status i).isFree) hi
    cases e : s.bridge.status i with
    | free => rfl
    | inUse a r => rw [e] at free; cases free
    | lost a => rw [e] at free; cases free
  · obtain ⟨-, k, inside, at_k, first⟩ := List.find?_eq_some_iff_getElem.1 hi
    have value : i.val = k := by rw [← at_k, allTags_getElem]
    have lower : j.val < k := value ▸ Fin.lt_def.1 hj
    have before := first j.val lower
    have at_j : allTags[j.val] = j := Fin.ext (allTags_getElem _)
    rw [at_j, e] at before
    cases before

/-- Settles O41: the four accounts hold every index that is not FREE, and the law leaves one more than they hold. -/
theorem availableEntryExists : Obligations.AvailableEntryExists := ⟨entryAvailable, freeEntryOffered⟩

end Sys2Proof.Machine
end

section
/-! PROOFS. What reads and searches of the ORT leave alone, and what they do where every record reads clean: the
rules behind the fence act and the entries to the states of a sequencer (O42 to O44). -/

namespace Sys2Proof.Machine

open Sys2Proof Sys2Proof.Safety

/-! ### The parts that the ORT's acts change -/

/-- Between the bridges the ORT, the work list, the notes, the part's flags, the send list, the error log and the free
choices alone differ. -/
def OrtChanges (b c : Bridge) : Prop :=
  ∃ ort workList notes partFlags sendList log env, c = { b with
    ort := ort
    workList := workList
    notes := notes
    partFlags := partFlags
    sendList := sendList
    log := log
    env := env }

theorem OrtChanges.refl (b : Bridge) : OrtChanges b b :=
  ⟨b.ort, b.workList, b.notes, b.partFlags, b.sendList, b.log, b.env, rfl⟩

theorem OrtChanges.trans {b c d : Bridge} (h : OrtChanges b c) (k : OrtChanges c d) : OrtChanges b d := by
  obtain ⟨_, _, _, _, _, _, _, rfl⟩ := h
  obtain ⟨_, _, _, _, _, _, _, rfl⟩ := k
  exact ⟨_, _, _, _, _, _, _, rfl⟩

section Same

variable {b c : Bridge} (h : OrtChanges b c)

include h

theorem OrtChanges.slot (n : SlotId) : c.slot n = b.slot n := by
  obtain ⟨_, _, _, _, _, _, _, rfl⟩ := h
  rfl

theorem OrtChanges.now : c.now = b.now := by
  obtain ⟨_, _, _, _, _, _, _, rfl⟩ := h
  rfl

theorem OrtChanges.direct : c.direct = b.direct := by
  obtain ⟨_, _, _, _, _, _, _, rfl⟩ := h
  rfl

theorem OrtChanges.run : c.run = b.run := by
  obtain ⟨_, _, _, _, _, _, _, rfl⟩ := h
  rfl

theorem OrtChanges.qualQueue : c.qualQueue = b.qualQueue := by
  obtain ⟨_, _, _, _, _, _, _, rfl⟩ := h
  rfl

end Same

/-- The ORT's acts that list no new item. -/
structure OrtShrinks (b c : Bridge) : Prop where
  frame : OrtChanges b c
  items : ∀ x ∈ c.workList, x ∈ b.workList

theorem OrtShrinks.of_workList {b c : Bridge} (h : OrtChanges b c) (e : c.workList = b.workList) :
    OrtShrinks b c := ⟨h, fun x hx => by rwa [e] at hx⟩

theorem OrtShrinks.refl (b : Bridge) : OrtShrinks b b := ⟨.refl b, fun _ h => h⟩

theorem OrtShrinks.trans {b c d : Bridge} (h : OrtShrinks b c) (k : OrtShrinks c d) : OrtShrinks b d :=
  ⟨h.frame.trans k.frame, fun x hx => h.items x (k.items x hx)⟩

theorem OrtShrinks.foldl {α : Type} {f : Bridge → α → Bridge} (h : ∀ b x, OrtShrinks b (f b x))
    (l : List α) (b : Bridge) : OrtShrinks b (l.foldl f b) := by
  induction l generalizing b with
  | nil => exact .refl b
  | cons x rest ih => exact (h b x).trans (ih (f b x))

/-- Raising a kind of the part leaves every slot. -/
theorem Bridge.raise_part_frame (b : Bridge) (g : Settings) (k : PartAlert) :
    ∃ partFlags sendList, b.raise g (.part k) = { b with partFlags := partFlags, sendList := sendList } := by
  unfold Bridge.raise Bridge.oweWrite
  split
  · exact ⟨b.partFlags, b.sendList, rfl⟩
  · split
    · exact ⟨_, _, rfl⟩
    · exact ⟨_, b.sendList, rfl⟩

theorem OrtShrinks.raise_part (b : Bridge) (g : Settings) (k : PartAlert) :
    OrtShrinks b (b.raise g (.part k)) := by
  obtain ⟨_, _, e⟩ := b.raise_part_frame g k
  rw [e]
  exact .of_workList ⟨b.ort, b.workList, b.notes, _, _, b.log, b.env, rfl⟩ rfl

theorem OrtShrinks.setLog (b : Bridge) (log : ErrorLog) : OrtShrinks b { b with log := log } :=
  .of_workList ⟨b.ort, b.workList, b.notes, b.partFlags, b.sendList, _, b.env, rfl⟩ rfl

theorem OrtShrinks.setWord (b : Bridge) (i : BridgeTag) (w : OrtWord) : OrtShrinks b (b.setWord i w) :=
  .of_workList ⟨_, b.workList, b.notes, b.partFlags, b.sendList, b.log, b.env, rfl⟩ rfl

theorem OrtShrinks.dropNote (b : Bridge) (i : BridgeTag) : OrtShrinks b (b.dropNote i) :=
  .of_workList ⟨b.ort, b.workList, _, b.partFlags, b.sendList, b.log, b.env, rfl⟩ rfl

theorem OrtShrinks.drawSearch (b : Bridge) : OrtShrinks b b.drawSearch :=
  .of_workList ⟨b.ort, b.workList, b.notes, b.partFlags, b.sendList, b.log, _, rfl⟩ rfl

theorem OrtShrinks.dropItems (b : Bridge) (keep : EntryItem → Bool) :
    OrtShrinks b { b with workList := b.workList.filter keep } :=
  ⟨⟨b.ort, _, b.notes, b.partFlags, b.sendList, b.log, b.env, rfl⟩, fun _ hx => (List.mem_filter.1 hx).1⟩

theorem OrtShrinks.noteCorrection (b : Bridge) (g : Settings) : OrtShrinks b (b.noteCorrection g) := by
  unfold Bridge.noteCorrection
  split
  · exact .setLog b _
  · exact (OrtShrinks.setLog b _).trans (.raise_part _ g _)

theorem OrtShrinks.noteUncorrectable (b : Bridge) (g : Settings) (word : LatchedWord) (n : SlotId)
    (e : ReadEvent) : OrtShrinks b (b.noteUncorrectable g word n e) :=
  (OrtShrinks.setLog b _).trans (.raise_part _ g _)

theorem OrtShrinks.loseEntry (b : Bridge) (g : Settings) (i : BridgeTag) (a : SlotId) (e : ReadEvent) :
    OrtShrinks b (b.loseEntry g i a e) :=
  (((OrtShrinks.setWord b i _).trans (.dropItems _ fun x => decide (x.entry ≠ i))).trans
    (.dropNote _ i)).trans (.noteUncorrectable _ g _ a e)

theorem OrtShrinks.readEntry (b : Bridge) (g : Settings) (i : BridgeTag) (e : ReadEvent) :
    OrtShrinks b (b.readEntry g i e).1 := by
  unfold Bridge.readEntry
  split
  · exact .refl b
  · exact .refl b
  · split
    · exact .refl b
    · exact (OrtShrinks.setWord b i _).trans (.noteCorrection _ g)
    · exact .loseEntry b g i _ e

theorem OrtShrinks.putRecord (b : Bridge) (i : BridgeTag) (r : EntryRecord) :
    OrtShrinks b (b.putRecord i r) := by
  unfold Bridge.putRecord
  split
  · exact .setWord b i _
  · exact .refl b
  · exact .refl b

theorem OrtShrinks.freeEntry (b : Bridge) (i : BridgeTag) : OrtShrinks b (b.freeEntry i) :=
  (OrtShrinks.setWord b i _).trans (.dropNote _ i)

theorem OrtShrinks.releaseEntry (b : Bridge) (i : BridgeTag) (r : EntryRecord) :
    OrtShrinks b (b.releaseEntry i r) := by
  unfold Bridge.releaseEntry
  split
  · exact .refl b
  · exact .putRecord b i _
  · exact .freeEntry b i
  · exact .freeEntry b i

theorem OrtShrinks.itemLeft (b : Bridge) (g : Settings) (i : BridgeTag) : OrtShrinks b (b.itemLeft g i) := by
  have read := OrtShrinks.readEntry b g i .itemLeft
  unfold Bridge.itemLeft
  split
  · rename_i e
    rw [e] at read
    split
    · exact read.trans (.freeEntry _ i)
    · exact read.trans (.putRecord _ i _)
    · exact read
    · exact read
  · rename_i e
    rw [e] at read
    exact read

/-- A search is within the changes of its act. -/
theorem OrtShrinks.search {act : BridgeTag → EntryRecord → Bridge → Bridge}
    (h : ∀ i r b, OrtShrinks b (act i r b)) (b : Bridge) (g : Settings) :
    OrtShrinks b (b.search g act) := by
  refine (OrtShrinks.drawSearch b).trans (.foldl (fun c i => ?_) _ _)
  have read := OrtShrinks.readEntry c g i .search
  unfold Bridge.searchStep
  split
  · rename_i e
    rw [e] at read
    exact read.trans (h i _ _)
  · rename_i e
    rw [e] at read
    exact read

theorem OrtShrinks.standInEntry (b : Bridge) (g : Settings) (i : BridgeTag) (r : EntryRecord) :
    OrtShrinks b (b.standInEntry g i r) := (OrtShrinks.putRecord b i _).trans (.dropNote _ i)

theorem OrtShrinks.orphanEntry (b : Bridge) (g : Settings) (i : BridgeTag) (r : EntryRecord) :
    OrtShrinks b (b.orphanEntry g i r) := (OrtShrinks.putRecord b i _).trans (.dropNote _ i)

theorem OrtShrinks.departEntry (g : Settings) (n : SlotId) (i : BridgeTag) (r : EntryRecord) (b : Bridge) :
    OrtShrinks b (Bridge.departEntry g n i r b) := by
  unfold Bridge.departEntry
  split
  · split
    · split
      · exact .freeEntry b i
      · exact .standInEntry b g i r
      · exact .standInEntry b g i r
    · split
      · split
        · exact .orphanEntry b g i r
        · exact .refl b
      · exact .refl b
      · exact .refl b
  · exact .refl b
  · exact .refl b

theorem OrtShrinks.releaseHeldEntry (n : SlotId) (i : BridgeTag) (r : EntryRecord) (b : Bridge) :
    OrtShrinks b (Bridge.releaseHeldEntry n i r b) := by
  unfold Bridge.releaseHeldEntry
  split
  · exact .releaseEntry b i r
  · exact .refl b

theorem OrtShrinks.freeBridgeEntry (n : SlotId) (i : BridgeTag) (r : EntryRecord) (b : Bridge) :
    OrtShrinks b (Bridge.freeBridgeEntry n i r b) := by
  unfold Bridge.freeBridgeEntry
  split
  · split
    · exact .freeEntry b i
    · exact .refl b
  · exact .refl b

theorem OrtChanges.listItemOf (b : Bridge) (i : BridgeTag) : OrtChanges b (b.listItemOf i) := by
  unfold Bridge.listItemOf Bridge.listItem
  split
  · split
    · exact ⟨b.ort, _, b.notes, b.partFlags, b.sendList, b.log, b.env, rfl⟩
    · exact .refl b
  · exact .refl b
  · exact .refl b

theorem OrtChanges.foldl {α : Type} {f : Bridge → α → Bridge} (h : ∀ b x, OrtChanges b (f b x))
    (l : List α) (b : Bridge) : OrtChanges b (l.foldl f b) := by
  induction l generalizing b with
  | nil => exact .refl b
  | cons x rest ih => exact (h b x).trans (ih (f b x))

/-- Leaving ADMITTED changes the ORT and the work list, no slot. -/
theorem OrtChanges.departAdmitted (b : Bridge) (g : Settings) (n : SlotId) :
    OrtChanges b (b.departAdmitted g n) :=
  (OrtShrinks.search (OrtShrinks.departEntry g n) b g).frame.trans (.foldl OrtChanges.listItemOf _ _)

/-- The bridge with no item toward card `a`, before the ORT takes the reports. -/
def Bridge.withoutItemsToward (b : Bridge) (a : SlotId) : Bridge :=
  { b with
    workList := b.workList.filter fun x => !(x.toward a)
    direct := match b.direct with
      | some d => if d.reply = .card a then none else some d
      | none => none }

/-- The entries whose items answer card `a`, in list order. -/
def Bridge.entriesToward (b : Bridge) (a : SlotId) : List BridgeTag :=
  (b.workList.filter fun x => x.toward a).map EntryItem.entry

theorem Bridge.removeItemsToward_eq (b : Bridge) (g : Settings) (a : SlotId) :
    b.removeItemsToward g a
      = (b.entriesToward a).foldl (fun c i => c.itemLeft g i) (b.withoutItemsToward a) := rfl

theorem OrtShrinks.removeItemsToward (b : Bridge) (g : Settings) (a : SlotId) :
    OrtShrinks (b.withoutItemsToward a) (b.removeItemsToward g a) :=
  .foldl (fun c i => OrtShrinks.itemLeft c g i) _ _

/-! ### Searches where every record reads clean -/

/-- Every record reads clean. -/
def Clean (b : Bridge) : Prop := ∀ i, (b.ort.get i).outcome = .clean

theorem OrtWord.outcome_clean_iff (w : OrtWord) : w.outcome = .clean ↔ w.flips + w.stuck = 0 := by
  refine ⟨fun h => ?_, OrtWord.outcome_clean⟩
  by_contra k
  unfold OrtWord.outcome readOutcome at h
  split at h
  · omega
  · cases h
  · cases h

/-- Between the bridges the word of index `i` and the notes alone differ, and the word reads no worse. -/
structure EntryOnly (i : BridgeTag) (b c : Bridge) : Prop where
  frame : ∃ ort notes, c = { b with ort := ort, notes := notes }
  others : ∀ j, j ≠ i → c.ort.get j = b.ort.get j
  bad : (c.ort.get i).flips + (c.ort.get i).stuck ≤ (b.ort.get i).flips + (b.ort.get i).stuck

theorem EntryOnly.refl (i : BridgeTag) (b : Bridge) : EntryOnly i b b :=
  ⟨⟨b.ort, b.notes, rfl⟩, fun _ _ => rfl, Nat.le_refl _⟩

theorem EntryOnly.clean {i : BridgeTag} {b c : Bridge} (h : EntryOnly i b c) (k : Clean b) : Clean c := by
  intro j
  by_cases e : j = i
  · subst e
    have zero := (OrtWord.outcome_clean_iff _).1 (k j)
    have bad := h.bad
    exact (OrtWord.outcome_clean_iff _).2 (by omega)
  · rw [h.others j e]
    exact k j

theorem EntryOnly.status {i j : BridgeTag} {b c : Bridge} (h : EntryOnly i b c) (hj : j ≠ i) :
    c.status j = b.status j := by
  rw [Bridge.status, h.others j hj]
  rfl

theorem EntryOnly.now {i : BridgeTag} {b c : Bridge} (h : EntryOnly i b c) : c.now = b.now := by
  obtain ⟨_, _, rfl⟩ := h.frame
  rfl

theorem EntryOnly.putStatus (i : BridgeTag) (b : Bridge) (x : EntryStatus) :
    EntryOnly i b (b.putStatus i x) where
  frame := ⟨_, b.notes, rfl⟩
  others := fun _ hj => b.ort_setWord_ne _ hj
  bad := by
    rw [Bridge.putStatus, Bridge.ort_setWord_self]
    exact Nat.add_le_add_right (Nat.zero_le _) _

theorem EntryOnly.putRecord (i : BridgeTag) (b : Bridge) (r : EntryRecord) :
    EntryOnly i b (b.putRecord i r) := by
  unfold Bridge.putRecord
  split
  · exact .putStatus i b _
  · exact .refl i b
  · exact .refl i b

theorem EntryOnly.dropNote {i : BridgeTag} {b c : Bridge} (h : EntryOnly i b c) :
    EntryOnly i b (c.dropNote i) where
  frame := by
    obtain ⟨_, _, rfl⟩ := h.frame
    exact ⟨_, _, rfl⟩
  others := h.others
  bad := h.bad

theorem EntryOnly.freeEntry (i : BridgeTag) (b : Bridge) : EntryOnly i b (b.freeEntry i) :=
  (EntryOnly.putStatus i b .free).dropNote

theorem EntryOnly.releaseEntry (i : BridgeTag) (b : Bridge) (r : EntryRecord) :
    EntryOnly i b (b.releaseEntry i r) := by
  unfold Bridge.releaseEntry
  split
  · exact .refl i b
  · exact .putRecord i b _
  · exact .freeEntry i b
  · exact .freeEntry i b

theorem EntryOnly.departEntry (g : Settings) (n : SlotId) (i : BridgeTag) (r : EntryRecord) (b : Bridge) :
    EntryOnly i b (Bridge.departEntry g n i r b) := by
  unfold Bridge.departEntry
  split
  · split
    · split
      · exact .freeEntry i b
      · exact (EntryOnly.putRecord i b _).dropNote
      · exact (EntryOnly.putRecord i b _).dropNote
    · split
      · split
        · exact (EntryOnly.putRecord i b _).dropNote
        · exact .refl i b
      · exact .refl i b
      · exact .refl i b
  · exact .refl i b
  · exact .refl i b

theorem EntryOnly.releaseHeldEntry (n : SlotId) (i : BridgeTag) (r : EntryRecord) (b : Bridge) :
    EntryOnly i b (Bridge.releaseHeldEntry n i r b) := by
  unfold Bridge.releaseHeldEntry
  split
  · exact .releaseEntry i b r
  · exact .refl i b

theorem EntryOnly.freeBridgeEntry (n : SlotId) (i : BridgeTag) (r : EntryRecord) (b : Bridge) :
    EntryOnly i b (Bridge.freeBridgeEntry n i r b) := by
  unfold Bridge.freeBridgeEntry
  split
  · split
    · exact .freeEntry i b
    · exact .refl i b
  · exact .refl i b

/-- The status that an act gives an entry IN-USE, by its account and record; any other index is left. -/
def EntryStatus.actOn (x : EntryStatus) (f : SlotId → EntryRecord → EntryStatus) : EntryStatus :=
  match x with
  | .inUse a r => f a r
  | .free => .free
  | .lost a => .lost a

theorem EntryStatus.actOn_of_not_inUse {x : EntryStatus} (h : x.isInUse = false)
    (f : SlotId → EntryRecord → EntryStatus) : x.actOn f = x := by
  cases x with
  | inUse a r => cases h
  | free => rfl
  | lost a => rfl

theorem Bridge.searchStep_clean {b : Bridge} {i : BridgeTag} {a : SlotId} {r : EntryRecord} (k : Clean b)
    (hs : b.status i = .inUse a r) (g : Settings)
    (act : BridgeTag → EntryRecord → Bridge → Bridge) :
    Bridge.searchStep g act b i = act i r b := by
  rw [Bridge.searchStep, Bridge.readEntry_clean hs (k i)]

/-- What a search does where every record reads clean: `b` is the bridge it starts from, `c` the one it leaves, `l`
the indexes it has read. -/
structure Searched (f : SlotId → EntryRecord → EntryStatus) (l : List BridgeTag) (b c : Bridge) : Prop where
  frame : ∃ ort notes, c = { b with ort := ort, notes := notes }
  clean : Clean c
  status : ∀ i, c.status i = if i ∈ l then (b.status i).actOn f else b.status i

/-- A pass over distinct IN-USE indexes acts on each once. -/
theorem Searched.fold {act : BridgeTag → EntryRecord → Bridge → Bridge}
    {f : SlotId → EntryRecord → EntryStatus} (now : Time) (g : Settings)
    (only : ∀ i r b, EntryOnly i b (act i r b))
    (acts : ∀ i a r b, b.now = now → b.status i = .inUse a r → (act i r b).status i = f a r)
    {l : List BridgeTag} (nodup : l.Nodup) {b : Bridge} (hn : b.now = now) (k : Clean b)
    (inUse : ∀ i ∈ l, (b.status i).isInUse = true) :
    Searched f l b (l.foldl (Bridge.searchStep g act) b) := by
  induction l generalizing b with
  | nil => exact ⟨⟨b.ort, b.notes, rfl⟩, k, fun i => (if_neg List.not_mem_nil).symm⟩
  | cons i l ih =>
    obtain ⟨fresh, nodup⟩ := List.nodup_cons.1 nodup
    have used := inUse i List.mem_cons_self
    cases hs : b.status i with
    | free => rw [hs] at used; cases used
    | lost a => rw [hs] at used; cases used
    | inUse a r =>
      rw [List.foldl_cons, Bridge.searchStep_clean k hs]
      have step := only i r b
      have now' : (act i r b).now = now := step.now.trans hn
      have rest := ih nodup now' (step.clean k) fun j hj => by
        rw [step.status fun e => fresh (e ▸ hj)]
        exact inUse j (List.mem_cons_of_mem _ hj)
      refine ⟨?_, rest.clean, fun j => ?_⟩
      · obtain ⟨_, _, e⟩ := rest.frame
        obtain ⟨_, _, e'⟩ := step.frame
        exact ⟨_, _, by rw [e, e']⟩
      · rw [rest.status j]
        by_cases e : j = i
        · subst e
          rw [if_neg fresh, if_pos List.mem_cons_self, hs, acts j a r b hn hs]
          rfl
        · rw [step.status e]
          simp [e]

theorem Bridge.mem_inUseTags (b : Bridge) (i : BridgeTag) :
    i ∈ b.inUseTags ↔ (b.status i).isInUse = true := by
  rw [Bridge.inUseTags, List.mem_filter]
  exact ⟨And.right, fun h => ⟨List.mem_finRange i, h⟩⟩

theorem Bridge.inUseTags_nodup (b : Bridge) : b.inUseTags.Nodup :=
  (List.nodup_finRange 256).filter _

/-- The order of a search holds each IN-USE index once. -/
theorem Bridge.searchOrder_spec (b : Bridge) :
    b.searchOrder.Nodup ∧ ∀ i, i ∈ b.searchOrder ↔ (b.status i).isInUse = true := by
  unfold Bridge.searchOrder
  split
  · exact ⟨b.inUseTags_nodup, b.mem_inUseTags⟩
  · rename_i j _ _
    split
    · rename_i used
      refine ⟨List.nodup_cons.2 ⟨by simp, b.inUseTags_nodup.filter _⟩, fun i => ?_⟩
      rw [List.mem_cons, List.mem_filter, b.mem_inUseTags, decide_eq_true_eq]
      by_cases e : i = j
      · simp [e, used]
      · simp [e]
    · exact ⟨b.inUseTags_nodup, b.mem_inUseTags⟩

/-- A search where every record reads clean acts on each IN-USE entry once. -/
theorem Searched.search {act : BridgeTag → EntryRecord → Bridge → Bridge}
    {f : SlotId → EntryRecord → EntryStatus} {b : Bridge} (k : Clean b) (g : Settings)
    (only : ∀ i r b, EntryOnly i b (act i r b))
    (acts : ∀ i a r c, c.now = b.now → c.status i = .inUse a r → (act i r c).status i = f a r) :
    (∃ ort notes env, b.search g act = { b with ort := ort, notes := notes, env := env }) ∧
      Clean (b.search g act) ∧ ∀ i, (b.search g act).status i = (b.status i).actOn f := by
  obtain ⟨nodup, mem⟩ := b.searchOrder_spec
  have pass := Searched.fold (b := b.drawSearch) b.now g only acts nodup rfl k fun i hi => (mem i).1 hi
  refine ⟨?_, pass.clean, fun i => ?_⟩
  · obtain ⟨_, _, e⟩ := pass.frame
    exact ⟨_, _, _, e⟩
  · refine (pass.status i).trans ?_
    by_cases h : i ∈ b.searchOrder
    · rw [if_pos h]
      rfl
    · rw [if_neg h]
      exact (EntryStatus.actOn_of_not_inUse (Bool.eq_false_iff.2 (mt (mem i).2 h)) f).symm

end Sys2Proof.Machine
end

section
/-! PROOFS. The fence act (O42). -/

namespace Sys2Proof.Machine

open Sys2Proof Sys2Proof.Safety

/-! ### What leaving ADMITTED does to an entry (R78, R80; R42) -/

/-- The record stood in with its item LISTED, held until `hold`. -/
def EntryRecord.standingIn (r : EntryRecord) (hold : Time) : EntryRecord :=
  { r with phase := .stoodIn hold true false }

/-- The record ORPHANED, held until `hold`. -/
def EntryRecord.orphan (r : EntryRecord) (hold : Time) : EntryRecord := { r with phase := .orphaned hold }

/-- The status of an entry IN-USE after its slot has left ADMITTED. -/
def departed (g : Settings) (n : SlotId) (now : Time) (a : SlotId) (r : EntryRecord) : EntryStatus :=
  match r.phase with
  | .opened _ =>
    if r.target = .slot n then
      match r.origin with
      | .bridge _ => .free
      | .upstream _ => .inUse a (r.standingIn (now + msec g.part.holdLimit))
      | .slot _ _ => .inUse a (r.standingIn (now + msec g.part.holdLimit))
    else
      match r.origin with
      | .slot m _ =>
        if m = n then .inUse a (r.orphan (now + msec g.part.holdLimit)) else .inUse a r
      | .upstream _ => .inUse a r
      | .bridge _ => .inUse a r
  | .stoodIn _ _ _ => .inUse a r
  | .orphaned _ => .inUse a r

section Depart

variable {b : Bridge} {g : Settings} {n : SlotId} {i : BridgeTag} {a : SlotId} {r : EntryRecord}

theorem Bridge.status_putRecord (hs : b.status i = .inUse a r) (x : EntryRecord) :
    (b.putRecord i x).status i = .inUse a x := by
  rw [Bridge.putRecord_inUse hs, Bridge.status_putStatus_self]

theorem Bridge.status_departEntry (hs : b.status i = .inUse a r) :
    (Bridge.departEntry g n i r b).status i = departed g n b.now a r := by
  have stood : (b.standInEntry g i r).status i
      = .inUse a (r.standingIn (b.now + msec g.part.holdLimit)) :=
    Bridge.status_putRecord hs _
  have orphan : (b.orphanEntry g i r).status i
      = .inUse a (r.orphan (b.now + msec g.part.holdLimit)) :=
    Bridge.status_putRecord hs _
  unfold Bridge.departEntry departed
  cases r.phase with
  | opened d =>
    dsimp only
    by_cases ht : r.target = .slot n
    · rw [if_pos ht, if_pos ht]
      cases r.origin with
      | upstream q => exact stood
      | slot m q => exact stood
      | bridge p => exact b.status_freeEntry_self i
    · rw [if_neg ht, if_neg ht]
      cases r.origin with
      | upstream q => exact hs
      | slot m q =>
        dsimp only
        by_cases hm : m = n
        · rw [if_pos hm, if_pos hm]
          exact orphan
        · rw [if_neg hm, if_neg hm]
          exact hs
      | bridge p => exact hs
  | stoodIn hold listed pending => exact hs
  | orphaned hold => exact hs

/-- Of an OPEN entry toward the slot nothing but a stood-in entry or a FREE index is left. -/
theorem departed_toward {d : Time} (hp : r.phase = .opened d) (ht : r.target = .slot n) (now : Time) :
    ((∀ p, r.origin ≠ .bridge p) → departed g n now a r
      = .inUse a (r.standingIn (now + msec g.part.holdLimit))) ∧
    ((∃ p, r.origin = .bridge p) → departed g n now a r = .free) := by
  unfold departed
  rw [hp]
  dsimp only
  rw [if_pos ht]
  refine ⟨fun h => ?_, fun ⟨p, h⟩ => by rw [h]⟩
  cases e : r.origin with
  | upstream q => rfl
  | slot m q => rfl
  | bridge p => exact absurd e (h p)

/-- An OPEN entry toward another target is ORPHANED if it comes from the slot, and left otherwise. -/
theorem departed_away {d : Time} (hp : r.phase = .opened d) (ht : r.target ≠ .slot n) (now : Time) :
    ((∃ q, r.origin = .slot n q) → departed g n now a r
      = .inUse a (r.orphan (now + msec g.part.holdLimit))) ∧
    ((∀ q, r.origin ≠ .slot n q) → departed g n now a r = .inUse a r) := by
  unfold departed
  rw [hp]
  dsimp only
  rw [if_neg ht]
  refine ⟨fun ⟨q, h⟩ => by rw [h]; exact if_pos rfl, fun h => ?_⟩
  cases e : r.origin with
  | upstream q => rfl
  | slot m q => exact if_neg fun hm => h q (by rw [e, hm])
  | bridge p => rfl

end Depart

/-! ### The items of the entries stood in together (R78) -/

/-- The item that index `i` would have as its record stands. -/
def Bridge.itemOf (b : Bridge) (i : BridgeTag) : Option EntryItem :=
  match b.status i with
  | .inUse _ r => b.itemFor i r
  | .free => none
  | .lost _ => none

theorem Bridge.listItemOf_eq (b : Bridge) (i : BridgeTag) :
    b.listItemOf i = { b with workList := b.workList ++ (b.itemOf i).toList } := by
  have none : b = { b with workList := b.workList ++ [] } := by rw [List.append_nil]
  unfold Bridge.listItemOf Bridge.itemOf Bridge.listItem
  cases b.status i with
  | free => exact none
  | lost a => exact none
  | inUse a r =>
    dsimp only
    cases b.itemFor i r with
    | none => exact none
    | some x => rfl

/-- Listing the items of some indexes lists them in order. -/
theorem Bridge.listItems_eq (b : Bridge) (l : List BridgeTag) :
    l.foldl Bridge.listItemOf b = { b with workList := b.workList ++ l.filterMap b.itemOf } := by
  induction l generalizing b with
  | nil => rw [List.foldl_nil, List.filterMap_nil, List.append_nil]
  | cons i l ih =>
    rw [List.foldl_cons, b.listItemOf_eq i, ih, List.filterMap_cons]
    show { b with workList := (b.workList ++ (b.itemOf i).toList) ++ l.filterMap b.itemOf } = _
    cases b.itemOf i with
    | none => rw [Option.toList_none, List.append_nil]
    | some x => rw [Option.toList_some, List.append_assoc, List.singleton_append]

/-! ### Age order (R78) -/

/-- One index goes before another: it is older, or as old with the lower index. -/
def Older (age : BridgeTag → Nat) (i j : BridgeTag) : Prop := age j < age i ∨ (age i = age j ∧ i < j)

section Age

variable {age : BridgeTag → Nat} {i : BridgeTag} {l : List BridgeTag}

theorem mem_insertByAge (j : BridgeTag) : j ∈ insertByAge age i l ↔ j = i ∨ j ∈ l := by
  induction l with
  | nil => simp [insertByAge]
  | cons k l ih =>
    rw [insertByAge]
    split
    · exact List.mem_cons
    · rw [List.mem_cons, ih, List.mem_cons]
      tauto

theorem insertByAge_pairwise (h : l.Pairwise (Older age)) (last : ∀ j ∈ l, j < i) :
    (insertByAge age i l).Pairwise (Older age) := by
  induction l with
  | nil => exact List.pairwise_singleton _ _
  | cons k l ih =>
    obtain ⟨first, rest⟩ := List.pairwise_cons.1 h
    rw [insertByAge]
    split
    · rename_i older
      refine List.pairwise_cons.2 ⟨fun j hj => .inl ?_, h⟩
      rcases List.mem_cons.1 hj with rfl | hj
      · exact older
      · rcases first j hj with k | ⟨k, -⟩ <;> omega
    · rename_i older
      refine List.pairwise_cons.2 ⟨fun j hj => ?_, ih rest fun j hj => last j (List.mem_cons_of_mem _ hj)⟩
      rcases (mem_insertByAge j).1 hj with rfl | hj
      · rcases Nat.lt_or_ge (age j) (age k) with lt | ge
        · exact .inl lt
        · exact .inr ⟨by omega, last k List.mem_cons_self⟩
      · exact first j hj

/-- Sorting indexes that ascend gives them in age order, equals ascending. -/
theorem sortByAge_spec (tags : List BridgeTag) (order : tags.Pairwise (· < ·)) :
    (sortByAge age tags).Pairwise (Older age) ∧ ∀ j, j ∈ sortByAge age tags ↔ j ∈ tags := by
  have all : ∀ (tags : List BridgeTag) (sorted : List BridgeTag), tags.Pairwise (· < ·) →
      sorted.Pairwise (Older age) → (∀ j ∈ sorted, ∀ k ∈ tags, j < k) →
      (tags.foldl (fun sorted i => insertByAge age i sorted) sorted).Pairwise (Older age) ∧
        ∀ j, j ∈ tags.foldl (fun sorted i => insertByAge age i sorted) sorted ↔ j ∈ tags ∨ j ∈ sorted := by
    intro tags
    induction tags with
    | nil => exact fun sorted _ h _ => ⟨h, fun j => by simp⟩
    | cons i tags ih =>
      intro sorted order h below
      obtain ⟨first, order⟩ := List.pairwise_cons.1 order
      obtain ⟨pairs, mem⟩ := ih (insertByAge age i sorted) order
        (insertByAge_pairwise h fun j hj => below j hj i List.mem_cons_self) fun j hj k hk => by
          rcases (mem_insertByAge j).1 hj with rfl | hj
          · exact first k hk
          · exact below j hj k (List.mem_cons_of_mem _ hk)
      refine ⟨pairs, fun j => (mem j).trans ?_⟩
      rw [mem_insertByAge, List.mem_cons]
      tauto
  obtain ⟨pairs, mem⟩ := all tags [] order List.Pairwise.nil (by simp)
  exact ⟨pairs, fun j => (mem j).trans (by simp)⟩

end Age

theorem Bridge.inUseTags_pairwise (b : Bridge) : b.inUseTags.Pairwise (· < ·) :=
  (List.sortedLT_finRange 256).pairwise.sublist List.filter_sublist

/-! ### Leaving ADMITTED where every record reads clean -/

/-- The indexes stood in together, in age order. -/
def Bridge.freshTags (b : Bridge) (g : Settings) (n : SlotId) : List BridgeTag :=
  sortByAge (b.search g (Bridge.departEntry g n)).age
    (b.inUseTags.filter fun i =>
      (b.status i).isOpen && ((b.search g (Bridge.departEntry g n)).status i).isStoodIn)

theorem Clean.departSearch {b : Bridge} (k : Clean b) (g : Settings) (n : SlotId) :
    (∃ ort notes env, b.search g (Bridge.departEntry g n) = { b with ort := ort, notes := notes, env := env }) ∧
      Clean (b.search g (Bridge.departEntry g n)) ∧
      ∀ i, (b.search g (Bridge.departEntry g n)).status i = (b.status i).actOn (departed g n b.now) :=
  Searched.search k g (EntryOnly.departEntry g n) fun _ _ _ _ hn hs =>
    hn ▸ Bridge.status_departEntry hs

theorem Bridge.departAdmitted_eq (b : Bridge) (g : Settings) (n : SlotId) :
    b.departAdmitted g n = { b.search g (Bridge.departEntry g n) with
      workList := (b.search g (Bridge.departEntry g n)).workList
        ++ (b.freshTags g n).filterMap (b.search g (Bridge.departEntry g n)).itemOf } :=
  Bridge.listItems_eq _ _

/-- Index `i` holds an OPEN entry toward slot `n` that is stood in as the slot leaves ADMITTED. -/
def StoodInWith (b : Bridge) (n : SlotId) (i : BridgeTag) (a : SlotId) (r : EntryRecord) : Prop :=
  b.status i = .inUse a r ∧ (∃ d, r.phase = .opened d) ∧ r.target = .slot n ∧ ∀ p, r.origin ≠ .bridge p

theorem StoodInWith.status {b : Bridge} {n : SlotId} {i : BridgeTag} {a : SlotId} {r : EntryRecord}
    (h : StoodInWith b n i a r) (k : Clean b) (g : Settings) :
    (b.search g (Bridge.departEntry g n)).status i
      = .inUse a (r.standingIn (b.now + msec g.part.holdLimit)) := by
  obtain ⟨hs, ⟨d, hp⟩, ht, ho⟩ := h
  obtain ⟨-, -, status⟩ := k.departSearch g n
  rw [status, hs]
  exact (departed_toward hp ht b.now).1 ho

theorem Clean.mem_freshTags {b : Bridge} (k : Clean b) (g : Settings) (n : SlotId) (i : BridgeTag) :
    i ∈ b.freshTags g n ↔ ∃ a r, StoodInWith b n i a r := by
  obtain ⟨-, -, status⟩ := k.departSearch g n
  have order := b.inUseTags_pairwise.sublist (List.filter_sublist (p := fun i =>
    (b.status i).isOpen && ((b.search g (Bridge.departEntry g n)).status i).isStoodIn))
  rw [Bridge.freshTags, (sortByAge_spec _ order).2, List.mem_filter, b.mem_inUseTags, Bool.and_eq_true]
  constructor
  · rintro ⟨used, opened, stood⟩
    cases hs : b.status i with
    | free => rw [hs] at used; cases used
    | lost a => rw [hs] at used; cases used
    | inUse a r =>
      refine ⟨a, r, hs, ?_⟩
      rw [status, hs] at stood
      rw [hs] at opened
      cases hp : r.phase with
      | stoodIn hold listed pending => simp [EntryStatus.isOpen, hp] at opened
      | orphaned hold => simp [EntryStatus.isOpen, hp] at opened
      | opened d =>
        change (departed g n b.now a r).isStoodIn = true at stood
        by_cases ht : r.target = .slot n
        · refine ⟨⟨d, rfl⟩, ht, fun p ho => ?_⟩
          rw [(departed_toward hp ht b.now).2 ⟨p, ho⟩] at stood
          cases stood
        · by_cases ho : ∃ q, r.origin = .slot n q
          · rw [(departed_away hp ht b.now).1 ho] at stood
            cases stood
          · rw [(departed_away hp ht b.now).2 fun q e => ho ⟨q, e⟩] at stood
            simp [EntryStatus.isStoodIn, hp] at stood
  · rintro ⟨a, r, h⟩
    rw [h.status k g]
    obtain ⟨hs, ⟨d, hp⟩, -⟩ := h
    rw [hs]
    exact ⟨rfl, EntryStatus.isOpen_of hp, rfl⟩

theorem Bridge.freshTags_pairwise (b : Bridge) (g : Settings) (n : SlotId) :
    (b.freshTags g n).Pairwise (Older (b.search g (Bridge.departEntry g n)).age) :=
  (sortByAge_spec _ (b.inUseTags_pairwise.sublist List.filter_sublist)).1

/-! ### The fence act (R80) -/

theorem Bridge.slot_raise_ne (b : Bridge) (g : Settings) {n m : SlotId} (k : SlotAlert) (h : m ≠ n) :
    (b.raise g (.slot n k)).slot m = b.slot m := by
  have owed : ∀ c : Bridge, (c.oweWrite g (.slot n k)).slot m = c.slot m := fun c => by
    unfold Bridge.oweWrite
    split <;> rfl
  unfold Bridge.raise
  split
  · rfl
  · rw [owed]
    exact b.slot_modSlot_ne _ h

/-- A slot as the fence act leaves it. -/
def Slot.fenced (s : Slot) (t : Trigger) (ind : Indicator) (flags : BitVec 8) : Slot :=
  { s with
    stage := .fenced
    ind := ind
    flags := flags
    egress := []
    fault := { s.fault with
      discarded := min (s.fault.discarded + postedCount (s.egress.map EgressTxn.txn)) 65535
      fenceReason := some (s.fault.fenceReason.getD t) } }

/-- The bridge before the alert of the fence act. -/
def Bridge.fencedQuietly (b : Bridge) (g : Settings) (n : SlotId) (t : Trigger) : Bridge :=
  (((b.setStage n .fenced).departAdmitted g n).emptyEgress n).modFault n fun r =>
    { r with fenceReason := some (r.fenceReason.getD t) }

theorem Bridge.fenceAct_eq (b : Bridge) (g : Settings) (n : SlotId) (t : Trigger) :
    b.fenceAct g n t = (b.fencedQuietly g n t).raise g (.slot n .fenced) := by
  refine congrArg (Bridge.raise · g (.slot n .fenced)) (congrArg (Bridge.modFault _ n) (funext fun r => ?_))
  cases r.fenceReason <;> simp

theorem Bridge.slot_fenceAct (b : Bridge) (g : Settings) (n : SlotId) (t : Trigger) :
    ∃ ind flags, (b.fenceAct g n t).slot n = (b.slot n).fenced t ind flags := by
  have left := (OrtChanges.departAdmitted (b.setStage n .fenced) g n).slot n
  obtain ⟨ind, stage⟩ := b.slot_setStage n .fenced
  obtain ⟨flags, e⟩ := Bridge.raise_slot (b.fencedQuietly g n t) g (.slot n .fenced) n
  refine ⟨ind, flags, ?_⟩
  rw [Bridge.fenceAct_eq, e, Bridge.fencedQuietly, Bridge.modFault, Bridge.slot_modSlot_self,
    Bridge.emptyEgress, Bridge.countDiscarded, Bridge.modFault, Bridge.slot_modSlot_self,
    Bridge.slot_modSlot_self, left, stage]
  rfl

theorem Bridge.slot_fenceAct_ne (b : Bridge) (g : Settings) (n : SlotId) (t : Trigger) {m : SlotId}
    (h : m ≠ n) : (b.fenceAct g n t).slot m = b.slot m := by
  rw [Bridge.fenceAct_eq, Bridge.slot_raise_ne _ _ _ h, Bridge.fencedQuietly, Bridge.modFault,
    Bridge.slot_modSlot_ne _ _ h,
    Bridge.emptyEgress, Bridge.countDiscarded, Bridge.modFault, Bridge.slot_modSlot_ne _ _ h,
    Bridge.slot_modSlot_ne _ _ h, (OrtChanges.departAdmitted _ g n).slot m]
  exact b.slot_modSlot_ne _ h

/-- The fence act touches the ORT and the work list in its departure alone. -/
theorem Bridge.fenceAct_rest (b : Bridge) (g : Settings) (n : SlotId) (t : Trigger) :
    (b.fenceAct g n t).ort = ((b.setStage n .fenced).departAdmitted g n).ort ∧
      (b.fenceAct g n t).workList = ((b.setStage n .fenced).departAdmitted g n).workList := by
  obtain ⟨_, _, _, e⟩ := Bridge.raise_frame (b.fencedQuietly g n t) g (.slot n .fenced)
  rw [Bridge.fenceAct_eq, e]
  simp [Bridge.fencedQuietly, Bridge.emptyEgress, Bridge.countDiscarded]

theorem Clean.status_fenceAct {b : Bridge} (k : Clean b) (g : Settings) (n : SlotId) (t : Trigger)
    (i : BridgeTag) :
    (b.fenceAct g n t).status i = (b.status i).actOn (departed g n b.now) := by
  have start : Clean (b.setStage n .fenced) := k
  obtain ⟨-, -, status⟩ := start.departSearch g n
  refine (Bridge.status_of_ort ((b.fenceAct_rest g n t).1.trans ?_) i).trans (status i)
  rw [Bridge.departAdmitted_eq]

theorem fenceActOnSlotAndEntries : Parts.FenceActOnSlotAndEntries := by
  intro b g n t stage k c
  obtain ⟨ind, flags, slot⟩ := b.slot_fenceAct g n t
  rw [show c.slot n = _ from slot]
  refine ⟨rfl, rfl, rfl, rfl, rfl, rfl, Bridge.flagSet_raise_self _ g _,
    fun m hm => b.slot_fenceAct_ne g n t hm, fun i account r d hs hp => ?_⟩
  have status : c.status i = departed g n b.now account r := by
    rw [show c.status i = _ from Clean.status_fenceAct k g n t i, hs]
    rfl
  rw [status]
  exact ⟨fun ht => (departed_toward hp ht b.now).1,
    fun ht p ho => (departed_toward hp ht b.now).2 ⟨p, ho⟩,
    fun ht q ho => (departed_away hp ht b.now).1 ⟨q, ho⟩,
    fun ht ho => ((departed_away hp ht b.now).2 ho).trans hs.symm⟩

/-- An index with the record it holds. -/
def Bridge.recordOf (b : Bridge) (i : BridgeTag) : Option (BridgeTag × EntryRecord) :=
  match b.status i with
  | .inUse _ r => some (i, r)
  | .free => none
  | .lost _ => none

theorem Bridge.recordOf_eq_some (b : Bridge) (i j : BridgeTag) (r : EntryRecord) :
    b.recordOf i = some (j, r) ↔ i = j ∧ ∃ a, b.status i = .inUse a r := by
  unfold Bridge.recordOf
  cases b.status i with
  | free => simp
  | lost a => simp
  | inUse a x => simp

/-- The destination of the item that answers a stood-in entry. -/
def standInDest (r : EntryRecord) (host : ItemDest) : ItemDest :=
  match r.origin with
  | .slot a _ => .card a
  | .upstream _ => host
  | .bridge _ => host

theorem StoodInWith.itemOf {b : Bridge} {n : SlotId} {i : BridgeTag} {a : SlotId} {r : EntryRecord}
    (h : StoodInWith b n i a r) (k : Clean b) (g : Settings) :
    (b.search g (Bridge.departEntry g n)).itemOf i
      = some { entry := i, dest := standInDest r (.host n (b.slot n).upQueue.length), begun := none } := by
  have same := (OrtShrinks.search (OrtShrinks.departEntry g n) b g).frame.slot n
  rw [Bridge.itemOf, h.status k g]
  obtain ⟨-, -, ht, ho⟩ := h
  dsimp only
  unfold standInDest
  cases e : r.origin with
  | upstream q => rw [Bridge.itemFor_host (by exact e) (by exact ht), same]
  | slot m q => rw [Bridge.itemFor_card (by exact e)]
  | bridge p => exact absurd e (ho p)

theorem StoodInWith.age {b : Bridge} {n : SlotId} {i : BridgeTag} {a : SlotId} {r : EntryRecord}
    (h : StoodInWith b n i a r) (k : Clean b) (g : Settings) :
    (b.search g (Bridge.departEntry g n)).age i = (b.now - r.allocatedAt).toNat := by
  rw [Bridge.age, h.status k g, (OrtShrinks.search (OrtShrinks.departEntry g n) b g).frame.now]
  rfl

theorem fenceActListsItems : Parts.FenceActListsItems := by
  intro b g n t stage k c age dest
  have start : Clean (b.setStage n .fenced) := k
  obtain ⟨ind, slot⟩ := b.slot_setStage n .fenced
  have queue : ((b.setStage n .fenced).slot n).upQueue = (b.slot n).upQueue := by rw [slot]
  have dest_eq : ∀ r, standInDest r (.host n ((b.setStage n .fenced).slot n).upQueue.length) = dest r :=
    fun r => by
      rw [queue]
      show _ = match r.origin with
        | .slot a _ => ItemDest.card a
        | _ => .host n (b.slot n).upQueue.length
      unfold standInDest
      cases r.origin <;> rfl
  let tags := (b.setStage n .fenced).freshTags g n
  have mem : ∀ i, i ∈ tags ↔ ∃ a r, StoodInWith b n i a r := start.mem_freshTags g n
  refine ⟨tags.filterMap b.recordOf, fun i r => ?_, ?_, ?_⟩
  · rw [List.mem_filterMap]
    constructor
    · rintro ⟨j, hj, e⟩
      obtain ⟨rfl, a, hs⟩ := (b.recordOf_eq_some j i r).1 e
      obtain ⟨a', r', hs', rest⟩ := (mem j).1 hj
      rw [hs] at hs'
      cases hs'
      exact ⟨⟨a, hs⟩, rest⟩
    · rintro ⟨⟨a, hs⟩, rest⟩
      exact ⟨i, (mem i).2 ⟨a, r, hs, rest⟩, (b.recordOf_eq_some i i r).2 ⟨rfl, a, hs⟩⟩
  · rw [List.pairwise_filterMap]
    refine (List.Pairwise.and_mem.1 ((b.setStage n .fenced).freshTags_pairwise g n)).imp ?_
    rintro i j ⟨hi, hj, older⟩ x hx y hy
    obtain ⟨rfl, a, hs⟩ := (b.recordOf_eq_some i x.1 x.2).1 hx
    obtain ⟨rfl, a', hs'⟩ := (b.recordOf_eq_some j y.1 y.2).1 hy
    have stood : ∀ {i a r}, i ∈ tags → b.status i = .inUse a r → StoodInWith b n i a r := by
      intro i a r hi hs
      obtain ⟨a', r', hs', rest⟩ := (mem i).1 hi
      rw [hs] at hs'
      cases hs'
      exact ⟨hs, rest⟩
    have agex := StoodInWith.age (b := b.setStage n .fenced) (stood hi hs) start g
    have agey := StoodInWith.age (b := b.setStage n .fenced) (stood hj hs') start g
    rw [Older, agex, agey] at older
    exact older
  · have listed : c.workList = (b.setStage n .fenced).workList
        ++ tags.filterMap ((b.setStage n .fenced).search g (Bridge.departEntry g n)).itemOf := by
      obtain ⟨⟨_, _, _, e⟩, -, -⟩ := start.departSearch g n
      rw [show c.workList = _ from (b.fenceAct_rest g n t).2, Bridge.departAdmitted_eq]
      show ((b.setStage n .fenced).search g (Bridge.departEntry g n)).workList ++ _ = _
      rw [show ((b.setStage n .fenced).search g (Bridge.departEntry g n)).workList
        = (b.setStage n .fenced).workList by rw [e]]
    rw [listed, List.map_filterMap]
    refine congrArg (b.workList ++ ·) (List.filterMap_congr fun i hi => ?_)
    obtain ⟨a, r, h⟩ := (mem i).1 hi
    rw [StoodInWith.itemOf (b := b.setStage n .fenced) h start g, dest_eq,
      (b.recordOf_eq_some i i r).2 ⟨rfl, a, h.1⟩]
    rfl

/-- Settles O42: the search acts on each entry once, and the insertion by age keeps equals in index order. -/
theorem fenceActTaken : Obligations.FenceActTaken := ⟨fenceActOnSlotAndEntries, fenceActListsItems⟩

end Sys2Proof.Machine
end

section
/-! PROOFS. What the sequencer's entries make of a slot: the entry under reset, RESETTING, PARKED, ADMITTED; fence
triggers and losses (O43). -/

namespace Sys2Proof.Machine

open Sys2Proof Sys2Proof.Safety

/-! ### What an entry to a state may change -/

/-- Between the bridges the slots, the direct item and what the ORT's acts change alone differ. -/
def EntryChanges (b c : Bridge) : Prop :=
  ∃ slots direct ort workList notes partFlags sendList log env, c = { b with
    slots := slots
    direct := direct
    ort := ort
    workList := workList
    notes := notes
    partFlags := partFlags
    sendList := sendList
    log := log
    env := env }

theorem EntryChanges.trans {b c d : Bridge} (h : EntryChanges b c) (k : EntryChanges c d) :
    EntryChanges b d := by
  obtain ⟨_, _, _, _, _, _, _, _, _, rfl⟩ := h
  obtain ⟨_, _, _, _, _, _, _, _, _, rfl⟩ := k
  exact ⟨_, _, _, _, _, _, _, _, _, rfl⟩

theorem EntryChanges.refl (b : Bridge) : EntryChanges b b :=
  ⟨b.slots, b.direct, b.ort, b.workList, b.notes, b.partFlags, b.sendList, b.log, b.env, rfl⟩

theorem EntryChanges.of_ort {b c : Bridge} (h : OrtChanges b c) : EntryChanges b c := by
  obtain ⟨_, _, _, _, _, _, _, rfl⟩ := h
  exact ⟨b.slots, b.direct, _, _, _, _, _, _, _, rfl⟩

theorem EntryChanges.modSlot (b : Bridge) (n : SlotId) (f : Slot → Slot) : EntryChanges b (b.modSlot n f) :=
  ⟨_, b.direct, b.ort, b.workList, b.notes, b.partFlags, b.sendList, b.log, b.env, rfl⟩

theorem EntryChanges.setStage (b : Bridge) (n : SlotId) (x : Stage) : EntryChanges b (b.setStage n x) :=
  .modSlot b n _

theorem EntryChanges.pwrenOff (b : Bridge) (n : SlotId) : EntryChanges b (b.pwrenOff n) := .modSlot b n _

theorem EntryChanges.modFault (b : Bridge) (n : SlotId) (f : FaultRecord → FaultRecord) :
    EntryChanges b (b.modFault n f) := .modSlot b n _

theorem EntryChanges.raise (b : Bridge) (g : Settings) (p : AlertPair) : EntryChanges b (b.raise g p) := by
  obtain ⟨_, _, _, e⟩ := b.raise_frame g p
  exact ⟨_, b.direct, b.ort, b.workList, b.notes, _, _, b.log, b.env, e⟩

section Same

variable {b c : Bridge} (h : EntryChanges b c)

include h

theorem EntryChanges.now : c.now = b.now := by
  obtain ⟨_, _, _, _, _, _, _, _, _, rfl⟩ := h
  rfl

theorem EntryChanges.qualQueue : c.qualQueue = b.qualQueue := by
  obtain ⟨_, _, _, _, _, _, _, _, _, rfl⟩ := h
  rfl

theorem EntryChanges.run : c.run = b.run := by
  obtain ⟨_, _, _, _, _, _, _, _, _, rfl⟩ := h
  rfl

end Same

theorem EntryChanges.emptyPortQueues (b : Bridge) (n : SlotId) : EntryChanges b (b.emptyPortQueues n) := by
  unfold Bridge.emptyPortQueues Bridge.countDiscarded Bridge.modFault
  exact (EntryChanges.modSlot b n _).trans (.modSlot _ n _)

theorem EntryChanges.withoutItemsToward (b : Bridge) (n : SlotId) : EntryChanges b (b.withoutItemsToward n) :=
  ⟨b.slots, _, b.ort, _, b.notes, b.partFlags, b.sendList, b.log, b.env, rfl⟩

theorem EntryChanges.srstEntry (b : Bridge) (g : Settings) (n : SlotId) :
    EntryChanges b (b.srstEntry g n) :=
  (((EntryChanges.emptyPortQueues b n).trans
    (.of_ort (OrtShrinks.search (OrtShrinks.releaseHeldEntry n) _ g).frame)).trans
    (.withoutItemsToward _ n)).trans (.of_ort (OrtShrinks.removeItemsToward _ g n).frame)

theorem EntryChanges.enterResetting (b : Bridge) (g : Settings) (n : SlotId) :
    EntryChanges b (b.enterResetting g n) := by
  have entry := (EntryChanges.modSlot b n fun s => { s with attempts := (b.slot n).attempts + 1 }).trans
    (.srstEntry _ g n)
  unfold Bridge.enterResetting
  dsimp only
  split
  · exact entry.trans (.modSlot _ n _)
  · exact (entry.trans (.modSlot _ n _)).trans (.modSlot _ n _)

/-! ### The entry actions under reset (R77) -/

/-- A slot with its port queues emptied and their posted requests counted as discarded. -/
def Slot.portsEmptied (s : Slot) : Slot :=
  { s with
    ingress := []
    egress := []
    fault := { s.fault with discarded := min (s.fault.discarded
      + (postedCount (s.ingress.map CardQueued.txn) + postedCount (s.egress.map EgressTxn.txn))) 65535 } }

section Srst

variable (b : Bridge) (g : Settings) (n : SlotId)

theorem Bridge.slot_emptyPortQueues_eq : (b.emptyPortQueues n).slot n = (b.slot n).portsEmptied := by
  rw [Bridge.emptyPortQueues, Bridge.countDiscarded, Bridge.modFault, Bridge.slot_modSlot_self,
    Bridge.slot_modSlot_self]
  rfl

theorem Bridge.slot_emptyPortQueues_ne {m : SlotId} (h : m ≠ n) :
    (b.emptyPortQueues n).slot m = b.slot m := by
  rw [Bridge.emptyPortQueues, Bridge.countDiscarded, Bridge.modFault, Bridge.slot_modSlot_ne _ _ h,
    Bridge.slot_modSlot_ne _ _ h]

/-- Of a slot the entry actions change what the emptying of its port queues does. -/
theorem Bridge.slot_srstEntry_ports (m : SlotId) : (b.srstEntry g n).slot m = (b.emptyPortQueues n).slot m := by
  have removed := (OrtShrinks.removeItemsToward ((b.emptyPortQueues n).search g (Bridge.releaseHeldEntry n))
    g n).frame.slot m
  have searched := (OrtShrinks.search (OrtShrinks.releaseHeldEntry n) (b.emptyPortQueues n) g).frame.slot m
  exact removed.trans searched

theorem Bridge.slot_srstEntry : (b.srstEntry g n).slot n = (b.slot n).portsEmptied :=
  (b.slot_srstEntry_ports g n n).trans (b.slot_emptyPortQueues_eq n)

theorem Bridge.slot_srstEntry_ne {m : SlotId} (h : m ≠ n) : (b.srstEntry g n).slot m = b.slot m :=
  (b.slot_srstEntry_ports g n m).trans (b.slot_emptyPortQueues_ne n h)

theorem Bridge.srstEntry_items : ∀ x ∈ (b.srstEntry g n).workList, x.toward n = false := fun x hx => by
  have kept := (OrtShrinks.removeItemsToward ((b.emptyPortQueues n).search g (Bridge.releaseHeldEntry n))
    g n).items x hx
  simpa using (List.mem_filter.1 kept).2

theorem Bridge.srstEntry_direct : (b.srstEntry g n).direct = match b.direct with
    | some d => if d.reply = .card n then none else some d
    | none => none := by
  have removed := (OrtShrinks.removeItemsToward ((b.emptyPortQueues n).search g (Bridge.releaseHeldEntry n))
    g n).frame.direct
  have searched := (OrtShrinks.search (OrtShrinks.releaseHeldEntry n) (b.emptyPortQueues n) g).frame.direct
  refine removed.trans ?_
  unfold Bridge.withoutItemsToward
  dsimp only
  rw [searched]
  rfl

end Srst

/-! ### Leaving a state (R78) -/

theorem OrtChanges.leaveSearch (b : Bridge) (g : Settings) (n : SlotId) :
    OrtChanges b (b.search g (Bridge.freeBridgeEntry n)) :=
  (OrtShrinks.search (OrtShrinks.freeBridgeEntry n) b g).frame

/-- Leaving a state changes no slot and not the time. -/
theorem Bridge.leave_keeps (b : Bridge) (g : Settings) (n : SlotId) :
    (∀ m, (b.leave g n).slot m = b.slot m) ∧ (b.leave g n).now = b.now := by
  unfold Bridge.leave
  cases (b.slot n).stage with
  | admitted =>
    exact ⟨(OrtChanges.departAdmitted b g n).slot, (OrtChanges.departAdmitted b g n).now⟩
  | qualifying =>
    exact ⟨(OrtChanges.leaveSearch (b.leaveQualification n) g n).slot,
      (OrtChanges.leaveSearch (b.leaveQualification n) g n).now⟩
  | restoring r => exact ⟨(OrtChanges.leaveSearch b g n).slot, (OrtChanges.leaveSearch b g n).now⟩
  | powering p => exact ⟨fun _ => rfl, rfl⟩
  | empty => exact ⟨fun _ => rfl, rfl⟩
  | off => exact ⟨fun _ => rfl, rfl⟩
  | resetting phase t => exact ⟨fun _ => rfl, rfl⟩
  | linking t => exact ⟨fun _ => rfl, rfl⟩
  | fenced => exact ⟨fun _ => rfl, rfl⟩
  | parked => exact ⟨fun _ => rfl, rfl⟩

/-! ### The entries, slot by slot -/

section Entries

variable (b : Bridge) (g : Settings) (n : SlotId)

theorem Bridge.slot_enterResetting :
    ∃ ind, (b.enterResetting g n).slot n = (b.slot n).resetting
      ((b.slot n).pwren && decide ((b.slot n).attempts + 1 < (g.policy n).escalation)) b.now
      (b.slot n).portsEmptied.fault ind := by
  have entry : ((b.modSlot n fun s => { s with attempts := (b.slot n).attempts + 1 }).srstEntry g n).slot n
      = { (b.slot n).portsEmptied with attempts := (b.slot n).attempts + 1 } := by
    rw [Bridge.slot_srstEntry, Bridge.slot_modSlot_self]
    rfl
  unfold Bridge.enterResetting
  dsimp only
  cases w : (b.slot n).pwren && decide ((b.slot n).attempts + 1 < (g.policy n).escalation) with
  | true =>
    have on : (b.slot n).pwren = true := (Bool.and_eq_true_iff.1 w).1
    obtain ⟨ind, e⟩ := Bridge.slot_setStage ((b.modSlot n fun s =>
      { s with attempts := (b.slot n).attempts + 1 }).srstEntry g n) n (.resetting .warmHold b.now)
    refine ⟨ind, ?_⟩
    rw [if_pos rfl, e, entry]
    simp [Slot.resetting, Slot.portsEmptied, on]
  | false =>
    obtain ⟨ind, e⟩ := Bridge.slot_setStage (((b.modSlot n fun s =>
      { s with attempts := (b.slot n).attempts + 1 }).srstEntry g n).pwrenOff n) n (.resetting .offWait b.now)
    refine ⟨ind, ?_⟩
    rw [if_neg Bool.false_ne_true, e, Bridge.pwrenOff, Bridge.slot_modSlot_self, entry]
    simp [Slot.resetting, Slot.portsEmptied]

theorem Bridge.slot_enterResetting_ne {m : SlotId} (h : m ≠ n) :
    (b.enterResetting g n).slot m = b.slot m := by
  have entry : ((b.modSlot n fun s => { s with attempts := (b.slot n).attempts + 1 }).srstEntry g n).slot m
      = b.slot m := by
    rw [Bridge.slot_srstEntry_ne _ _ _ h, Bridge.slot_modSlot_ne _ _ h]
  unfold Bridge.enterResetting Bridge.setStage Bridge.pwrenOff
  dsimp only
  split
  · rw [Bridge.slot_modSlot_ne _ _ h, entry]
  · rw [Bridge.slot_modSlot_ne _ _ h, Bridge.slot_modSlot_ne _ _ h, entry]

/-- Beside the slot the entry to RESETTING does what the entry actions do. -/
theorem Bridge.enterResetting_rest :
    (b.enterResetting g n).ort
        = ((b.modSlot n fun s => { s with attempts := (b.slot n).attempts + 1 }).srstEntry g n).ort ∧
      (b.enterResetting g n).workList
        = ((b.modSlot n fun s => { s with attempts := (b.slot n).attempts + 1 }).srstEntry g n).workList ∧
      (b.enterResetting g n).direct
        = ((b.modSlot n fun s => { s with attempts := (b.slot n).attempts + 1 }).srstEntry g n).direct := by
  unfold Bridge.enterResetting
  dsimp only
  split
  · simp
  · simp

/-- A fault record with the park reason latched if none is. -/
def latchPark (r : FaultRecord) (reason : Option ParkReason) : FaultRecord :=
  { r with parkReason := r.parkReason.or reason }

/-- A slot as the entry to PARKED leaves it. -/
def Slot.parked (s : Slot) (reason : Option ParkReason) (keep : Bool) (ind : Indicator) (flags : BitVec 8) :
    Slot :=
  { s.portsEmptied with
    stage := .parked
    fault := latchPark s.portsEmptied.fault reason
    pwren := keep && s.pwren
    watch := keep && s.watch
    ind := ind
    flags := flags }

theorem Bridge.enterParked_eq (reason : Option ParkReason) (keep : Bool) :
    b.enterParked g n reason keep =
      ((if keep then (b.srstEntry g n).modFault n fun r => latchPark r reason
        else ((b.srstEntry g n).modFault n fun r => latchPark r reason).pwrenOff n).setStage n
        .parked).raise g (.slot n .parked) := by
  have latch : (fun r : FaultRecord => { r with parkReason := match r.parkReason with
      | some old => some old
      | none => reason }) = fun r => latchPark r reason := by
    funext r
    unfold latchPark
    cases r.parkReason <;> simp
  refine Eq.trans ?_ (congrArg (fun f => ((if keep then (b.srstEntry g n).modFault n f
    else ((b.srstEntry g n).modFault n f).pwrenOff n).setStage n .parked).raise g (.slot n .parked)) latch)
  rfl

theorem EntryChanges.enterParked (reason : Option ParkReason) (keep : Bool) :
    EntryChanges b (b.enterParked g n reason keep) := by
  have entry := (EntryChanges.srstEntry b g n).trans (.modFault _ n fun r => latchPark r reason)
  rw [Bridge.enterParked_eq]
  cases keep with
  | true =>
    rw [if_pos rfl]
    exact (entry.trans (.setStage _ n _)).trans (.raise _ g _)
  | false =>
    rw [if_neg Bool.false_ne_true]
    exact ((entry.trans (.pwrenOff _ n)).trans (.setStage _ n _)).trans (.raise _ g _)

theorem Bridge.slot_enterParked (reason : Option ParkReason) (keep : Bool) :
    ∃ ind flags, (b.enterParked g n reason keep).slot n = (b.slot n).parked reason keep ind flags := by
  have latched : ((b.srstEntry g n).modFault n fun r => latchPark r reason).slot n
      = { (b.slot n).portsEmptied with fault := latchPark (b.slot n).portsEmptied.fault reason } := by
    rw [Bridge.modFault, Bridge.slot_modSlot_self, Bridge.slot_srstEntry]
  rw [Bridge.enterParked_eq]
  cases keep with
  | true =>
    rw [if_pos rfl]
    obtain ⟨ind, stage⟩ := Bridge.slot_setStage ((b.srstEntry g n).modFault n fun r => latchPark r reason) n
      .parked
    obtain ⟨flags, e⟩ := Bridge.raise_slot (((b.srstEntry g n).modFault n fun r =>
      latchPark r reason).setStage n .parked) g (.slot n .parked) n
    refine ⟨ind, flags, ?_⟩
    rw [e, stage, latched]
    simp [Slot.parked, Slot.portsEmptied]
  | false =>
    rw [if_neg Bool.false_ne_true]
    obtain ⟨ind, stage⟩ := Bridge.slot_setStage (((b.srstEntry g n).modFault n fun r =>
      latchPark r reason).pwrenOff n) n .parked
    obtain ⟨flags, e⟩ := Bridge.raise_slot ((((b.srstEntry g n).modFault n fun r =>
      latchPark r reason).pwrenOff n).setStage n .parked) g (.slot n .parked) n
    refine ⟨ind, flags, ?_⟩
    rw [e, stage, Bridge.pwrenOff, Bridge.slot_modSlot_self, latched]
    simp [Slot.parked, Slot.portsEmptied]

theorem Bridge.slot_enterParked_ne (reason : Option ParkReason) (keep : Bool) {m : SlotId} (h : m ≠ n) :
    (b.enterParked g n reason keep).slot m = b.slot m := by
  rw [Bridge.enterParked_eq, Bridge.slot_raise_ne _ _ _ h, Bridge.setStage, Bridge.slot_modSlot_ne _ _ h]
  cases keep with
  | true => rw [if_pos rfl, Bridge.modFault, Bridge.slot_modSlot_ne _ _ h, Bridge.slot_srstEntry_ne _ _ _ h]
  | false =>
    rw [if_neg Bool.false_ne_true, Bridge.pwrenOff, Bridge.slot_modSlot_ne _ _ h, Bridge.modFault,
      Bridge.slot_modSlot_ne _ _ h, Bridge.slot_srstEntry_ne _ _ _ h]

theorem Bridge.flagSet_enterParked (reason : Option ParkReason) (keep : Bool) :
    (b.enterParked g n reason keep).flagSet (.slot n .parked) = true :=
  Bridge.flagSet_raise_self _ g _

theorem Slot.parkReason_parked (s : Slot) (reason : Option ParkReason) (keep : Bool) (ind : Indicator)
    (flags : BitVec 8) : (s.parked reason keep ind flags).fault.parkReason = s.fault.parkReason.or reason :=
  rfl

end Entries

/-! ### Fence triggers (R79) -/

theorem triggerActsByState : Parts.TriggerActsByState := by
  intro b g n t _ _ cause counted
  have cause_eq : t.attemptCause = cause := by cases t <;> rfl
  unfold Bridge.takeTrigger
  rw [cause_eq]
  cases (b.slot n).stage <;> rfl

/-! ### Losses (R83, R84, R87) -/

section Losses

variable (b : Bridge) (g : Settings) (n : SlotId)

theorem Bridge.presenceLoss_of (h : (b.slot n).stage ≠ .empty) :
    b.presenceLoss g n = (((b.countFenceEvent n).leaveByLoss g n .presenceLost).enterUnpowered g n
      .empty).raise g (.slot n .presenceChange) := by
  unfold Bridge.presenceLoss
  split
  · rename_i e; exact absurd e h
  · rfl

theorem Bridge.powerLoss_of_parked (h : (b.slot n).stage = .parked) :
    b.powerLoss g n = ((b.countFenceEvent n).pwrenOff n).raise g (.slot n .powerFault) := by
  simp only [Bridge.powerLoss, h]

theorem Bridge.powerLoss_of (he : (b.slot n).stage ≠ .empty) (ho : (b.slot n).stage ≠ .off)
    (hp : (b.slot n).stage ≠ .parked) :
    b.powerLoss g n = (((b.countFenceEvent n).leaveByLoss g n .powerLost).enterParked g n
      (some .powerLost) false).raise g (.slot n .powerFault) := by
  unfold Bridge.powerLoss
  dsimp only
  cases hs : (b.slot n).stage with
  | empty => exact absurd hs he
  | off => exact absurd hs ho
  | parked => exact absurd hs hp
  | _ => rfl

/-- A slot with one more fence event. -/
def Slot.fenceCounted (s : Slot) : Slot :=
  { s with fault := { s.fault with fenceEvents := min (s.fault.fenceEvents + 1) 65535 } }

theorem Bridge.slot_countFenceEvent : (b.countFenceEvent n).slot n = (b.slot n).fenceCounted := by
  rw [Bridge.countFenceEvent, Bridge.modFault, Bridge.slot_modSlot_self]
  rfl

theorem Bridge.leaveByLoss_admitted {t : Trigger} (h : (b.slot n).stage = .admitted) :
    b.leaveByLoss g n t = b.fenceAct g n t := by
  simp only [Bridge.leaveByLoss, h]

theorem Bridge.leaveByLoss_other {t : Trigger} (h : (b.slot n).stage ≠ .admitted) :
    b.leaveByLoss g n t = b.leave g n := by
  unfold Bridge.leaveByLoss
  split
  · rename_i e; exact absurd e h
  · rfl

/-- What the departure by a loss leaves of a slot for the entry behind it: its fault record is the old one but for the
discarded requests and, of an ADMITTED slot, the fence reason. -/
theorem Bridge.slot_leaveByLoss (t : Trigger) :
    ((b.leaveByLoss g n t).slot n).pwren = (b.slot n).pwren ∧
      ((b.leaveByLoss g n t).slot n).attempts = (b.slot n).attempts ∧
      ((b.leaveByLoss g n t).slot n).fault.fenceEvents = (b.slot n).fault.fenceEvents ∧
      ((b.leaveByLoss g n t).slot n).fault.parkReason = (b.slot n).fault.parkReason ∧
      ((b.slot n).stage = .admitted → ((b.leaveByLoss g n t).slot n).fault.fenceReason
        = some ((b.slot n).fault.fenceReason.getD t)) := by
  by_cases h : (b.slot n).stage = .admitted
  · obtain ⟨ind, flags, e⟩ := b.slot_fenceAct g n t
    rw [Bridge.leaveByLoss_admitted _ _ _ h, e]
    exact ⟨rfl, rfl, rfl, rfl, fun _ => rfl⟩
  · rw [Bridge.leaveByLoss_other _ _ _ h, (b.leave_keeps g n).1 n]
    exact ⟨rfl, rfl, rfl, rfl, fun k => absurd k h⟩

/-- A slot as the entry to EMPTY or OFF leaves it. -/
def Slot.unpowered (s : Slot) (stage : Stage) (ind : Indicator) : Slot :=
  { s.portsEmptied with
    stage := stage
    ind := ind
    pwren := false
    watch := false
    attempts := 0
    restore := false }

theorem Bridge.slot_enterUnpowered (stage : Stage) :
    ∃ ind, (b.enterUnpowered g n stage).slot n = (b.slot n).unpowered stage ind := by
  obtain ⟨ind, e⟩ := Bridge.slot_setStage (b.pwrenOff n) n stage
  refine ⟨ind, ?_⟩
  rw [Bridge.enterUnpowered, Bridge.slot_modSlot_self, Bridge.slot_srstEntry, e, Bridge.pwrenOff,
    Bridge.slot_modSlot_self]
  rfl

end Losses

theorem lossesTaken : Parts.LossesTaken := by
  intro b g n
  have count := b.slot_countFenceEvent n
  refine ⟨fun he => ?_, fun he ho => ?_⟩
  · intro c
    obtain ⟨-, -, events, -, reason⟩ := (b.countFenceEvent n).slot_leaveByLoss g n .presenceLost
    obtain ⟨ind, empty⟩ := ((b.countFenceEvent n).leaveByLoss g n .presenceLost).slot_enterUnpowered g n .empty
    obtain ⟨flags, slot⟩ := Bridge.raise_slot (((b.countFenceEvent n).leaveByLoss g n
      .presenceLost).enterUnpowered g n .empty) g (.slot n .presenceChange) n
    have c_eq : c = _ := b.presenceLoss_of g n he
    rw [count] at events reason
    have alert := Bridge.flagSet_raise_self (((b.countFenceEvent n).leaveByLoss g n
      .presenceLost).enterUnpowered g n .empty) g (.slot n .presenceChange)
    rw [← c_eq] at alert slot
    rw [slot, empty]
    generalize ((b.countFenceEvent n).leaveByLoss g n .presenceLost).slot n = x at events reason
    exact ⟨rfl, rfl, rfl, rfl, rfl, rfl, rfl, alert, events, reason⟩
  · intro c
    by_cases hp : (b.slot n).stage = .parked
    · have c_eq : c = _ := b.powerLoss_of_parked g n hp
      obtain ⟨flags, slot⟩ := Bridge.raise_slot ((b.countFenceEvent n).pwrenOff n) g (.slot n .powerFault) n
      rw [c_eq, slot, Bridge.pwrenOff, Bridge.slot_modSlot_self, count]
      exact ⟨hp, rfl, rfl, rfl, Bridge.flagSet_raise_self _ g _, rfl, fun k => absurd hp k, fun _ => rfl⟩
    · have c_eq : c = _ := b.powerLoss_of g n he ho hp
      obtain ⟨-, attempts, events, park, -⟩ := (b.countFenceEvent n).slot_leaveByLoss g n .powerLost
      obtain ⟨ind, flags, parked⟩ := ((b.countFenceEvent n).leaveByLoss g n .powerLost).slot_enterParked g n
        (some .powerLost) false
      obtain ⟨flags', slot⟩ := Bridge.raise_slot (((b.countFenceEvent n).leaveByLoss g n
        .powerLost).enterParked g n (some .powerLost) false) g (.slot n .powerFault) n
      rw [count] at attempts events park
      have alert := Bridge.flagSet_raise_self (((b.countFenceEvent n).leaveByLoss g n
        .powerLost).enterParked g n (some .powerLost) false) g (.slot n .powerFault)
      rw [← c_eq] at alert slot
      rw [slot, parked]
      generalize ((b.countFenceEvent n).leaveByLoss g n .powerLost).slot n = x at attempts events park
      refine ⟨rfl, rfl, rfl, attempts, alert, events, fun _ => ?_, fun k => absurd k hp⟩
      refine (Slot.parkReason_parked _ _ false ind flags).trans ?_
      rw [park]
      cases e : (b.slot n).fault.parkReason with
      | none => simp [Slot.fenceCounted, e]
      | some first => simp [Slot.fenceCounted, e]

/-- Settles O43: the stage chooses the act, and each act says what it leaves of the slot. -/
theorem triggersAndLosses : Obligations.TriggersAndLosses := ⟨triggerActsByState, lossesTaken⟩

end Sys2Proof.Machine
end

section
/-! PROOFS. An attempt from its start in RESETTING to its failure or to ADMITTED (O44). -/

namespace Sys2Proof.Machine

open Sys2Proof Sys2Proof.Safety

/-! ### The entry under reset and RESETTING (R77, R94) -/

theorem entryUnderReset : Parts.EntryUnderReset := fun b g n =>
  ⟨b.slot_srstEntry g n, fun _ hm => b.slot_srstEntry_ne g n hm, b.srstEntry_items g n,
    b.srstEntry_direct g n⟩

theorem entryToResetting : Parts.EntryToResetting := by
  intro b g n c count
  obtain ⟨ind, slot⟩ := b.slot_enterResetting g n
  obtain ⟨-, items, direct⟩ := b.enterResetting_rest g n
  rw [show c.slot n = _ from slot]
  refine ⟨rfl, rfl, rfl, rfl, ?_, ?_, ?_, fun m hm => b.slot_enterResetting_ne g n hm⟩
  · rw [show c.workList = _ from items]
    exact Bridge.srstEntry_items _ g n
  · rw [show c.direct = _ from direct]
    exact Bridge.srstEntry_direct _ g n
  · by_cases h : (b.slot n).pwren = true ∧ count < (g.policy n).escalation
    · have warm : ((b.slot n).pwren && decide ((b.slot n).attempts + 1 < (g.policy n).escalation)) = true := by
        rw [Bool.and_eq_true, decide_eq_true_eq]
        exact h
      rw [if_pos h, warm]
      exact ⟨rfl, rfl⟩
    · have cold : ((b.slot n).pwren && decide ((b.slot n).attempts + 1 < (g.policy n).escalation)) = false := by
        rw [Bool.eq_false_iff, Ne, Bool.and_eq_true, decide_eq_true_eq]
        exact h
      rw [if_neg h, cold]
      exact ⟨rfl, rfl⟩

/-! ### The entries released as a slot enters RESETTING (R40, R45) -/

/-- The status of an entry IN-USE after the search for entries held for slot `n`. -/
def released (n : SlotId) (a : SlotId) (r : EntryRecord) : EntryStatus :=
  if r.target = .slot n then
    match r.phase with
    | .opened _ => .inUse a r
    | .stoodIn hold true _ => .inUse a { r with phase := .stoodIn hold true true }
    | .stoodIn _ false _ => .free
    | .orphaned _ => .free
  else .inUse a r

/-- The status of an entry IN-USE after the report that its item has left the list. -/
def itemGone (a : SlotId) (r : EntryRecord) : EntryStatus :=
  match r.phase with
  | .stoodIn _ _ true => .free
  | .stoodIn hold _ false => .inUse a { r with phase := .stoodIn hold false false }
  | .opened _ => .inUse a r
  | .orphaned _ => .inUse a r

section Release

variable {b : Bridge} {g : Settings} {n : SlotId} {i : BridgeTag} {a : SlotId} {r : EntryRecord}

theorem Bridge.status_releaseHeldEntry (hs : b.status i = .inUse a r) :
    (Bridge.releaseHeldEntry n i r b).status i = released n a r := by
  unfold Bridge.releaseHeldEntry released
  by_cases ht : r.target = .slot n
  · rw [if_pos ht, if_pos ht]
    cases hp : r.phase with
    | opened d => rw [Bridge.releaseEntry, hp]; exact hs
    | stoodIn hold listed pending =>
      cases listed with
      | true => exact Bridge.releaseEntry_listed hs hp
      | false => rw [Bridge.releaseEntry_left hp]; exact b.status_freeEntry_self i
    | orphaned hold => rw [Bridge.releaseEntry_orphaned hp]; exact b.status_freeEntry_self i
  · rw [if_neg ht, if_neg ht]
    exact hs

/-- The report of an item that has left, where the record reads clean. -/
theorem Clean.itemLeft (k : Clean b) (g : Settings) (i : BridgeTag) :
    EntryOnly i b (b.itemLeft g i) ∧ (b.itemLeft g i).status i = (b.status i).actOn itemGone := by
  cases hs : b.status i with
  | free =>
    rw [Bridge.itemLeft_of_none (Bridge.readEntry_of_not_inUse (by rw [hs]; rfl) _)]
    exact ⟨.refl i b, hs⟩
  | lost a =>
    rw [Bridge.itemLeft_of_none (Bridge.readEntry_of_not_inUse (by rw [hs]; rfl) _)]
    exact ⟨.refl i b, hs⟩
  | inUse a r =>
    have read := Bridge.readEntry_clean (g := g) (e := .itemLeft) hs (k i)
    show _ ∧ _ = itemGone a r
    unfold itemGone
    cases hp : r.phase with
    | opened d =>
      have left : b.itemLeft g i = b := by simp [Bridge.itemLeft, read, hp]
      rw [left]
      exact ⟨.refl i b, hs⟩
    | orphaned hold =>
      have left : b.itemLeft g i = b := by simp [Bridge.itemLeft, read, hp]
      rw [left]
      exact ⟨.refl i b, hs⟩
    | stoodIn hold listed pending =>
      cases pending with
      | true =>
        rw [Bridge.itemLeft_pending read hp]
        exact ⟨.freeEntry i b, b.status_freeEntry_self i⟩
      | false =>
        rw [Bridge.itemLeft_held read hp]
        exact ⟨.putRecord i b _, Bridge.status_putRecord hs _⟩

theorem itemGone_twice (x : EntryStatus) : (x.actOn itemGone).actOn itemGone = x.actOn itemGone := by
  cases x with
  | free => rfl
  | lost a => rfl
  | inUse a r =>
    show (itemGone a r).actOn itemGone = itemGone a r
    cases hp : r.phase with
    | opened d => simp [itemGone, hp, EntryStatus.actOn]
    | orphaned hold => simp [itemGone, hp, EntryStatus.actOn]
    | stoodIn hold listed pending =>
      cases pending <;> simp [itemGone, hp, EntryStatus.actOn]

/-- The reports of several items, taken in order, where every record reads clean. -/
theorem Clean.itemsLeft (k : Clean b) (g : Settings) (l : List BridgeTag) :
    Searched itemGone l b (l.foldl (fun c i => c.itemLeft g i) b) := by
  induction l generalizing b with
  | nil => exact ⟨⟨b.ort, b.notes, rfl⟩, k, fun i => (if_neg List.not_mem_nil).symm⟩
  | cons i l ih =>
    obtain ⟨only, gone⟩ := k.itemLeft g i
    have rest := ih (only.clean k)
    refine ⟨?_, rest.clean, fun j => ?_⟩
    · obtain ⟨_, _, e⟩ := rest.frame
      obtain ⟨_, _, e'⟩ := only.frame
      exact ⟨_, _, by rw [List.foldl_cons, e, e']⟩
    · rw [List.foldl_cons, rest.status j]
      by_cases e : j = i
      · subst e
        rw [gone, itemGone_twice, if_pos List.mem_cons_self]
        split <;> rfl
      · rw [only.status e]
        simp [e]

/-- The ORT and the list after the entry actions, where every record reads clean. -/
theorem Clean.srstEntry (k : Clean b) (g : Settings) (n : SlotId) :
    (b.srstEntry g n).workList = b.workList.filter (fun x => !(x.toward n)) ∧
      ∀ i, (b.srstEntry g n).status i =
        if i ∈ b.entriesToward n then ((b.status i).actOn (released n)).actOn itemGone
        else (b.status i).actOn (released n) := by
  have start : Clean (b.emptyPortQueues n) := k
  obtain ⟨⟨ort, notes, env, frame⟩, clean, status⟩ := Searched.search (f := released n) start g
    (EntryOnly.releaseHeldEntry n) fun _ _ _ _ _ hs => Bridge.status_releaseHeldEntry hs
  have list : ((b.emptyPortQueues n).search g (Bridge.releaseHeldEntry n)).workList = b.workList := by
    rw [frame]
    rfl
  have gone := Clean.itemsLeft (b := ((b.emptyPortQueues n).search g
    (Bridge.releaseHeldEntry n)).withoutItemsToward n) clean g
    (((b.emptyPortQueues n).search g (Bridge.releaseHeldEntry n)).entriesToward n)
  refine ⟨?_, fun i => ?_⟩
  · obtain ⟨_, _, e⟩ := gone.frame
    rw [Bridge.srstEntry, Bridge.removeItemsToward_eq, e]
    show List.filter _ ((b.emptyPortQueues n).search g (Bridge.releaseHeldEntry n)).workList = _
    rw [list]
  · have entries : ((b.emptyPortQueues n).search g (Bridge.releaseHeldEntry n)).entriesToward n
        = b.entriesToward n := by
      rw [Bridge.entriesToward, list]
      rfl
    have here : (((b.emptyPortQueues n).search g (Bridge.releaseHeldEntry n)).withoutItemsToward n).status i
        = (b.status i).actOn (released n) := status i
    rw [Bridge.srstEntry, Bridge.removeItemsToward_eq, gone.status i, here, entries]

theorem Bridge.mem_entriesToward (b : Bridge) (n : SlotId) (i : BridgeTag) :
    i ∈ b.entriesToward n ↔ ∃ x ∈ b.workList, x.entry = i ∧ x.toward n = true := by
  simp only [Bridge.entriesToward, List.mem_map, List.mem_filter]
  exact ⟨fun ⟨x, ⟨hx, ht⟩, e⟩ => ⟨x, hx, e, ht⟩, fun ⟨x, hx, e, ht⟩ => ⟨x, ⟨hx, ht⟩, e⟩⟩

end Release

theorem resetReleasesEntries : Parts.ResetReleasesEntries := by
  intro b g n k c removed
  obtain ⟨ort, items, -⟩ := b.enterResetting_rest g n
  have start : Clean (b.modSlot n fun s => { s with attempts := (b.slot n).attempts + 1 }) := k
  obtain ⟨list, status⟩ := start.srstEntry g n
  have after : ∀ i, c.status i = if removed i then ((b.status i).actOn (released n)).actOn itemGone
      else (b.status i).actOn (released n) := fun i => by
    refine (Bridge.status_of_ort ort i).trans ((status i).trans ?_)
    by_cases h : removed i
    · exact (if_pos ((b.mem_entriesToward n i).2 h)).trans (if_pos h).symm
    · exact (if_neg (mt (b.mem_entriesToward n i).1 h)).trans (if_neg h).symm
  refine ⟨items.trans list, fun i hi => ?_, fun i account r hs => ⟨fun d hp => ?_, fun hold hp => ⟨fun ht => ?_,
    fun ht => ?_⟩, fun hold listed pending hp => ⟨fun ht h => ?_, fun ht hl h => ?_, fun ht h pend => ?_,
    fun ht h pend => ?_, fun ht h => ?_⟩⟩⟩
  · rw [after i, EntryStatus.actOn_of_not_inUse hi, EntryStatus.actOn_of_not_inUse hi, ite_self]
  all_goals rw [after i, hs]
  · have stays : released n account r = .inUse account r := by simp [released, hp]
    have gone : itemGone account r = .inUse account r := by simp [itemGone, hp]
    simp [EntryStatus.actOn, stays, gone]
  · have freed : released n account r = .free := by simp [released, hp, ht]
    simp [EntryStatus.actOn, freed]
  · have stays : released n account r = .inUse account r := by simp [released, ht]
    have gone : itemGone account r = .inUse account r := by simp [itemGone, hp]
    simp [EntryStatus.actOn, stays, gone]
  · cases listed with
    | false =>
      have freed : released n account r = .free := by simp [released, hp, ht]
      simp [EntryStatus.actOn, freed]
    | true =>
      have h : removed i := h.resolve_left (by decide)
      rw [if_pos h]
      simp [EntryStatus.actOn, released, itemGone, hp, ht]
  · subst hl
    rw [if_neg h]
    simp [EntryStatus.actOn, released, hp, ht]
  · subst pend
    rw [if_pos h]
    simp [EntryStatus.actOn, released, itemGone, hp, ht]
  · subst pend
    rw [if_pos h]
    simp [EntryStatus.actOn, released, itemGone, hp, ht]
  · rw [if_neg h]
    simp [EntryStatus.actOn, released, ht]

/-! ### Leaving a state (R78) -/

/-- The status of an entry IN-USE after slot `n` has left QUALIFYING or RESTORING. -/
def bridgeFreed (n : SlotId) (a : SlotId) (r : EntryRecord) : EntryStatus :=
  match r.phase, r.origin with
  | .opened _, .bridge _ => if r.target = .slot n then .free else .inUse a r
  | _, _ => .inUse a r

section Leaving

variable {b : Bridge} {g : Settings} {n : SlotId} {i : BridgeTag} {a : SlotId} {r : EntryRecord}

theorem bridgeFreed_of {d : Time} {p : Purpose} (hp : r.phase = .opened d) (ho : r.origin = .bridge p)
    (ht : r.target = .slot n) : bridgeFreed n a r = .free := by
  simp [bridgeFreed, hp, ho, ht]

theorem bridgeFreed_of_not (h : ∀ d p, r.phase = .opened d → r.origin = .bridge p → r.target ≠ .slot n) :
    bridgeFreed n a r = .inUse a r := by
  unfold bridgeFreed
  split
  · rename_i hp ho
    exact if_neg (h _ _ hp ho)
  · rfl

theorem Bridge.status_freeBridgeEntry (hs : b.status i = .inUse a r) :
    (Bridge.freeBridgeEntry n i r b).status i = bridgeFreed n a r := by
  unfold Bridge.freeBridgeEntry bridgeFreed
  cases r.phase with
  | opened d =>
    cases r.origin with
    | bridge p =>
      dsimp only
      split
      · exact b.status_freeEntry_self i
      · exact hs
    | upstream q => exact hs
    | slot m q => exact hs
  | stoodIn hold listed pending => exact hs
  | orphaned hold => exact hs

theorem Clean.leaveSearch (k : Clean b) (g : Settings) (n : SlotId) (i : BridgeTag) :
    (b.search g (Bridge.freeBridgeEntry n)).status i = (b.status i).actOn (bridgeFreed n) :=
  (Searched.search k g (EntryOnly.freeBridgeEntry n) fun _ _ _ _ _ hs =>
    Bridge.status_freeBridgeEntry hs).2.2 i

theorem Bridge.leave_qualifying (h : (b.slot n).stage = .qualifying) :
    b.leave g n = (b.leaveQualification n).search g (Bridge.freeBridgeEntry n) := by
  simp only [Bridge.leave, h]

theorem Bridge.leave_restoring {r : Replay} (h : (b.slot n).stage = .restoring r) :
    b.leave g n = b.search g (Bridge.freeBridgeEntry n) := by
  simp only [Bridge.leave, h]

theorem Bridge.leave_powering {p : PowerSeq} (h : (b.slot n).stage = .powering p) :
    b.leave g n = b.leavePowerQueue n := by
  simp only [Bridge.leave, h]

/-- Leaving QUALIFYING the slot leaves the queue, and the engine the run that serves it. -/
theorem Bridge.leave_qualifying_queue (h : (b.slot n).stage = .qualifying) :
    (b.leave g n).qualQueue = b.qualQueue.filter (fun m => decide (m ≠ n)) ∧
      (b.leave g n).run = match b.run with
        | some r => if r.slot = n then none else some r
        | none => none := by
  rw [Bridge.leave_qualifying h]
  exact ⟨(OrtChanges.leaveSearch (b.leaveQualification n) g n).qualQueue,
    (OrtChanges.leaveSearch (b.leaveQualification n) g n).run⟩

end Leaving

theorem leavingTellsBlocks : Parts.LeavingTellsBlocks := by
  intro b g n c
  refine ⟨fun hs k => ?_, fun hs => ?_, fun p hs => Bridge.leave_powering hs⟩
  · have status : ∀ i, c.status i = (b.status i).actOn (bridgeFreed n) := by
      intro i
      rcases hs with hs | ⟨r, hs⟩
      · rw [show c = _ from Bridge.leave_qualifying hs]
        exact Clean.leaveSearch (b := b.leaveQualification n) k g n i
      · rw [show c = _ from Bridge.leave_restoring hs]
        exact Clean.leaveSearch k g n i
    refine ⟨fun i account r d p hi hp ho ht => ?_, fun i h => ?_⟩
    · rw [status i, hi]
      exact bridgeFreed_of hp ho ht
    · rw [status i]
      cases hi : b.status i with
      | free => rfl
      | lost a => rfl
      | inUse a r => exact bridgeFreed_of_not fun d p hp ho => h a r d p hi hp ho
  · obtain ⟨queue, run⟩ := Bridge.leave_qualifying_queue (g := g) hs
    refine ⟨queue, fun r hr => ?_⟩
    rw [show c.run = _ from run, hr]

/-! ### The end of an attempt (R92, R97, R98) -/

theorem entryToParked : Parts.EntryToParked := by
  intro b g n reason keep old c new
  obtain ⟨ind, flags, slot⟩ := b.slot_enterParked g n reason keep
  have new_eq : new = old.parked reason keep ind flags := slot
  rw [new_eq, Slot.parkReason_parked]
  refine ⟨rfl, rfl, rfl, rfl, rfl, rfl, rfl, rfl, fun first h => ?_, fun h => ?_,
    b.flagSet_enterParked g n reason keep, fun m hm => b.slot_enterParked_ne g n reason keep hm⟩
  · rw [h]
    rfl
  · rw [h]
    rfl

theorem entryToAdmitted : Parts.EntryToAdmitted := by
  intro b g n c
  obtain ⟨ind, stage⟩ := Bridge.slot_setStage (b.modSlot n fun s =>
    { s with
      attempts := 0
      suspicion := 0
      quietRef := b.now
      fault := { s.fault with recoveries := satAdd countTop s.fault.recoveries 1 } }) n .admitted
  obtain ⟨flags, slot⟩ := Bridge.raise_slot ((b.modSlot n fun s =>
    { s with
      attempts := 0
      suspicion := 0
      quietRef := b.now
      fault := { s.fault with recoveries := satAdd countTop s.fault.recoveries 1 } }).setStage n
    .admitted) g (.slot n .admitted) n
  rw [stage, Bridge.slot_modSlot_self] at slot
  rw [show c.slot n = _ from slot]
  refine ⟨rfl, rfl, rfl, rfl, rfl, rfl, Bridge.flagSet_raise_self _ g _, fun m hm => ?_⟩
  show ((Bridge.setStage _ n .admitted).raise g (.slot n .admitted)).slot m = _
  rw [Bridge.slot_raise_ne _ _ _ hm, Bridge.setStage, Bridge.slot_modSlot_ne _ _ hm,
    Bridge.slot_modSlot_ne _ _ hm]

section Failure

variable {b : Bridge} {g : Settings} {n : SlotId}

theorem Bridge.attemptFailure_again {cause : Option ParkReason}
    (h : (b.slot n).attempts < (g.policy n).maxAttempts) :
    b.attemptFailure g n cause = (b.leave g n).enterResetting g n := if_pos h

theorem Bridge.attemptFailure_last {cause : Option ParkReason}
    (h : (g.policy n).maxAttempts ≤ (b.slot n).attempts) :
    b.attemptFailure g n cause
      = (b.leave g n).enterParked g n cause (decide ((g.policy n).parkPower = .keep)) :=
  if_neg (Nat.not_lt.2 h)

theorem EntryChanges.attemptFailure (b : Bridge) (g : Settings) (n : SlotId) (cause : Option ParkReason) :
    EntryChanges (b.leave g n) (b.attemptFailure g n cause) := by
  unfold Bridge.attemptFailure
  dsimp only
  split
  · exact .enterResetting _ g n
  · exact .enterParked _ g n cause _

/-- A failure in QUALIFYING takes the slot out of the queue and ends the run that serves it. -/
theorem Bridge.attemptFailure_unqueues (cause : Option ParkReason) (h : (b.slot n).stage = .qualifying) :
    n ∉ (b.attemptFailure g n cause).qualQueue ∧ served (b.attemptFailure g n cause) ≠ some n := by
  obtain ⟨queue, run⟩ := Bridge.leave_qualifying_queue (g := g) h
  have same := EntryChanges.attemptFailure b g n cause
  rw [served, same.qualQueue, same.run, queue, run]
  refine ⟨by simp, ?_⟩
  cases b.run with
  | none => nofun
  | some r =>
    by_cases e : r.slot = n
    · simp [e]
    · simp [e]

end Failure

theorem attemptFailureTaken : Parts.AttemptFailureTaken := by
  intro b g n cause _ c
  obtain ⟨slot, now⟩ := b.leave_keeps g n
  refine ⟨fun h => ?_, fun h => ?_, Bridge.attemptFailure_unqueues (some cause)⟩
  · obtain ⟨ind, e⟩ := (b.leave g n).slot_enterResetting g n
    rw [slot, now] at e
    rw [show c = _ from Bridge.attemptFailure_again h, e]
    exact ⟨⟨_, rfl⟩, rfl, rfl, rfl⟩
  · obtain ⟨ind, flags, e⟩ := (b.leave g n).slot_enterParked g n (some cause)
      (decide ((g.policy n).parkPower = .keep))
    have alert := (b.leave g n).flagSet_enterParked g n (some cause) (decide ((g.policy n).parkPower = .keep))
    rw [slot] at e
    rw [show c = _ from Bridge.attemptFailure_last h, e]
    refine ⟨rfl, rfl, rfl, ?_, alert, Bool.and_comm _ _⟩
    rw [Slot.parkReason_parked]
    cases (b.slot n).fault.parkReason <;> rfl

/-- Settles O44: the searches act on each entry once, and each entry to a state says what it leaves of the slot. -/
theorem attemptStartsAndEnds : Obligations.AttemptStartsAndEnds :=
  ⟨entryUnderReset, leavingTellsBlocks, entryToResetting, resetReleasesEntries, attemptFailureTaken,
    entryToAdmitted, entryToParked⟩

end Sys2Proof.Machine
end

section
/-! PROOFS. The lines of the slots, the power grants, and the timed ends of the sequencers (O45 to O48). -/

namespace Sys2Proof.Machine

open Sys2Proof Sys2Proof.Safety

/-! ### The inputs and outputs of a slot (R106, R108 to R110) -/

@[simp] theorem PerInput.get_set_self {α : Type} (p : PerInput α) (line : InputLine) (x : α) :
    (p.set line x).get line = x := by
  cases line <;> rfl

theorem pinChangeSensed : Parts.PinChangeSensed := by
  intro s n line high old level start
  refine State.act_eq_of (f := fun b g => b.pinChange g n line high) ?_
  have sensed : (if (high == activeHigh (s.settings.slot n).inversions line) = old.filtered.get line then none
      else match old.changeStart.get line with
        | some t => some t
        | none => some s.bridge.now) = start := by
    show _ = if level = old.filtered.get line then none else some ((old.changeStart.get line).getD s.bridge.now)
    cases old.changeStart.get line <;> rfl
  unfold Bridge.pinChange Bridge.sense Bridge.unfiltered
  dsimp only
  rw [Bridge.slot_modSlot_self, Bridge.modSlot_modSlot, PerInput.get_set_self]
  refine Bridge.modSlot_congr ?_
  rw [← sensed]
  rfl

theorem filterTime_eq (line : InputLine) : filterTime line = msec (if line = .pwrgd then 1 else 20) := by
  cases line <;> rfl

theorem filteredChangeDue : Parts.FilteredChangeDue := by
  intro b g n line level
  rw [← filterTime_eq]
  unfold Bridge.lineDue Bridge.unfiltered
  cases (b.slot n).changeStart.get line with
  | none => simp
  | some start =>
    by_cases due : reached b.now (start + filterTime line) = true
    · simp only [due, if_true, Option.some.injEq, exists_eq_left', true_and]
      split
      · rename_i same
        exact iff_of_false nofun fun ⟨e, other⟩ => other (e ▸ same.symm)
      · rename_i other
        simp only [Option.some.injEq]
        exact ⟨fun e => ⟨e, fun same => other (e.trans same.symm)⟩, And.left⟩
    · simp [due]

theorem Bridge.presence_of_empty {b : Bridge} {n : SlotId} (g : Settings) (h : (b.slot n).stage = .empty) :
    b.presence g n = ((b.setStage n .off).srstEntry g n).raise g (.slot n .presenceChange) := by
  unfold Bridge.presence
  rw [h]

@[simp] theorem Bridge.slot_takeFiltered_stage (b : Bridge) (n : SlotId) (line : InputLine) (level : Bool) :
    ((b.takeFiltered n line level).slot n).stage = (b.slot n).stage := by
  rw [Bridge.takeFiltered, Bridge.slot_modSlot_self]

theorem presenceAndAttention : Parts.PresenceAndAttention := by
  intro s n g taken
  refine ⟨fun due h => ?_, fun due h => ?_, fun due => ?_, fun due => ?_, fun due => ?_⟩
  · refine State.actSettled_eq_of (f := fun b g => b.debouncedPresence g n) ((if_pos due).trans ?_)
    exact Bridge.presence_of_empty _ ((Bridge.slot_takeFiltered_stage ..).trans h)
  · refine State.actSettled_eq_of (f := fun b g => b.debouncedPresence g n) ((if_pos due).trans ?_)
    exact Bridge.presence_of_not_empty (by rwa [Bridge.slot_takeFiltered_stage])
  · exact State.actSettled_eq_of (f := fun b g => b.debouncedLoss g n) (if_pos due)
  · exact State.act_eq_of (f := fun b g => b.attentionPress g n) (if_pos due)
  · exact State.act_eq_of (f := fun b g => b.attentionRelease g n) (if_pos due)

theorem polarityOfLines : Parts.PolarityOfLines := by
  intro b g n x inverted
  have flip (level inversion : Bool) : (level != inversion) = if inversion then !level else level := by
    cases inversion <;> simp
  have keep (level inversion : Bool) : (level == inversion) = if inversion then level else !level := by
    cases inversion <;> simp
  refine ⟨flip .., keep .., flip .., keep .., ?_, keep .., fun line => rfl⟩
  show (x.pins.pwrgd == !inverted.pwrgd) = _
  cases inverted.pwrgd <;> simp

theorem resetLineByState : Parts.ResetLineByState := by
  refine fun b n => ⟨rfl, ?_⟩
  cases (b.slot n).stage <;> rfl

/-- Settles O45: each command is its change of the slot under a guard that is the moment named. -/
theorem inputLinesFiltered : Obligations.InputLinesFiltered :=
  ⟨pinChangeSensed, filteredChangeDue, presenceAndAttention, polarityOfLines, resetLineByState⟩

/-! ### Power-good (R113, R116) -/

theorem Bridge.powerGoodTaken_of {b : Bridge} {g : Settings} {n : SlotId} {grant : Time}
    (due : b.lineDue g n .pwrgd = some true) (h : (b.slot n).stage = .powering (.awaitPwrgd grant)) :
    b.powerGoodTaken g n = (b.takeFiltered n .pwrgd true).enterHold n grant := by
  unfold Bridge.powerGoodTaken
  rw [due, h]
  rfl

theorem Bridge.unwatchedPwrgd_of {b : Bridge} {g : Settings} {n : SlotId} {level : Bool}
    (due : b.lineDue g n .pwrgd = some level) (h : b.pwrgdReported n level = false) :
    b.unwatchedPwrgd g n = b.takeFiltered n .pwrgd level := by
  unfold Bridge.unwatchedPwrgd
  rw [due]
  exact if_neg (by simp [h])

/-- Settles O46: the three commands share out the changes of PWRGD by whether one is reported. -/
theorem powerGoodChanges : Obligations.PowerGoodChanges := by
  intro s n g taken
  refine ⟨fun grant due h => ?_, fun due h => ?_, fun due h => ?_, fun due h => ?_⟩
  · exact State.act_eq_of (f := fun b g => b.powerGoodTaken g n) (Bridge.powerGoodTaken_of due h)
  · exact State.actSettled_eq_of (f := fun b g => b.powerGoodLoss g n) (if_pos ⟨due, h⟩)
  · refine State.act_eq_of (f := fun b g => b.unwatchedPwrgd g n) (Bridge.unwatchedPwrgd_of due ?_)
    exact Bool.eq_false_iff.2 fun reported => (Bridge.pwrgdReported_rise _ _).1 reported |>.elim h
  · exact State.act_eq_of (f := fun b g => b.unwatchedPwrgd g n) (Bridge.unwatchedPwrgd_of due h)

/-! ### Grants (R112, R119 to R121) -/

theorem Bridge.powerGrant_of {b : Bridge} {g : Settings} {n : SlotId} {rest : List SlotId}
    (h : b.powerQueue = n :: rest) (room : b.grantsInWindow g < g.part.inrushCount) :
    b.powerGrant g = ({ b with
      powerQueue := rest
      inrush := rememberGrant b.inrush b.now }.modSlot n fun x => { x with pwren := true }).afterGrant n := by
  unfold Bridge.powerGrant Bridge.grantDue
  rw [h]
  simp only [room, if_true, Bridge.grantPower, h, List.tail_cons]

theorem Bridge.powerGrant_full {b : Bridge} {g : Settings} (h : g.part.inrushCount ≤ b.grantsInWindow g) :
    b.powerGrant g = b := by
  have none_due : b.grantDue g = none := by
    unfold Bridge.grantDue
    cases b.powerQueue with
    | nil => rfl
    | cons n rest => exact if_neg (Nat.not_lt.2 h)
  rw [Bridge.powerGrant, none_due]

theorem powerGranted : Parts.PowerGranted := by
  intro s n rest h within kept b on
  have asserted : (on.slot n).filtered = (s.bridge.slot n).filtered := by
    rw [show on = b.modSlot n _ from rfl, Bridge.slot_modSlot_self]
    rfl
  refine ⟨fun room low => ?_, fun room high => ?_, fun full => ?_⟩
  · refine State.act_eq_of (f := Bridge.powerGrant) ((Bridge.powerGrant_of h room).trans (if_neg ?_))
    show ¬ (on.slot n).filtered.pwrgd = true
    simp [asserted, low]
  · refine State.act_eq_of (f := Bridge.powerGrant) ((Bridge.powerGrant_of h room).trans (if_pos ?_))
    show (on.slot n).filtered.pwrgd = true
    rw [asserted, high]
  · exact State.act_unchanged (f := Bridge.powerGrant) (Bridge.powerGrant_full full)

/-- Settles O47: a grant is due at the head of the Power Queue under the count, and the expiry keeps what is younger. -/
theorem powerGrants : Obligations.PowerGrants :=
  ⟨powerGranted, fun _ => State.act_eq_of (f := fun b _ => b.expireInrush) rfl⟩

/-! ### Timed ends and the indicator (R95, R96, R105, R113, R114) -/

theorem timedEnds : Parts.TimedEnds := by
  intro s n t start g now stage
  refine ⟨fun h due => ?_, fun h due => ?_, fun h due => ?_, fun h due => ?_, fun h due => ?_⟩
  · exact State.act_eq_of (f := fun b g => b.sequenceComplete g n)
      (if_pos ((Bridge.sequenceDue_iff ..).2 ⟨t, start, h, due⟩))
  · refine State.actSettled_eq_of (f := fun b g => b.powerGoodTimeout g n)
      ((if_pos ((Bridge.powerTimeoutDue_iff ..).2 ⟨start, h, due⟩)).trans ?_)
    rw [Bridge.powerFault, Bridge.leave_powering h]
    rfl
  · exact State.act_eq_of (f := fun b g => b.warmHoldEnd g n)
      (if_pos ((Bridge.warmHoldDue_iff ..).2 ⟨start, h, due⟩))
  · exact State.actSettled_eq_of (f := fun b g => b.offTimeEnd g n)
      (if_pos ((Bridge.offTimeDue_iff ..).2 ⟨start, h, due⟩))
  · exact State.actSettled_eq_of (f := fun b g => b.linkTimeout g n)
      (if_pos ((Bridge.linkTimeoutDue_iff ..).2 ⟨start, h, due⟩))

/-- The lengths of a half by Table 4-9. -/
theorem Stage.half_of_blink {x : Stage} {half : Nat} (h : x.indPattern = .blink half) :
    half = 500 ∨ (half = 125 ∧ x = .parked) := by
  cases x with
  | parked =>
    cases h
    exact .inr ⟨rfl, rfl⟩
  | empty => cases h
  | off => cases h
  | admitted => cases h
  | powering _ | resetting _ _ | linking _ | qualifying | restoring _ | fenced =>
    cases h
    exact .inl rfl

theorem blinkToggles : Parts.BlinkToggles := by
  intro s n half start pattern since due
  refine ⟨Stage.half_of_blink pattern, State.act_eq_of (f := fun b _ => b.blinkToggle n) ?_⟩
  have ended : s.bridge.blinkDue n = some (start + msec half) :=
    (Bridge.blinkDue_eq_some ..).2 ⟨(Slot.halfEnd_eq_some ..).2 ⟨half, start, pattern, since, rfl⟩, due⟩
  rw [Bridge.blinkToggle, ended]

theorem indicatorFollowsState : Parts.IndicatorFollowsState := by
  intro b n stage pattern ind
  have table : ∀ x : Stage, pattern x = x.indPattern := fun x => by cases x <;> rfl
  refine Bridge.modSlot_congr ?_
  have follows : (if (b.slot n).stage.indPattern = stage.indPattern then (b.slot n).ind
      else stage.indPattern.start b.now) = ind := by
    show _ = if pattern (b.slot n).stage = pattern stage then _ else _
    rw [table, table]
    cases stage.indPattern <;> rfl
  rw [follows]

/-- Settles O48: each timed end is its guard's act, and Table 4-9 gives the pattern a change of state starts. -/
theorem timedEndsAndBlink : Obligations.TimedEndsAndBlink :=
  ⟨timedEnds, blinkToggles, indicatorFollowsState⟩

end Sys2Proof.Machine
end

section
/-! PROOFS. Runs and steps of the qualification engine, link events, and what the end of a step settles (O49). -/

namespace Sys2Proof.Machine

open Sys2Proof Sys2Proof.Safety

/-! ### Steps and runs (R131, R142) -/

/-- The run at the start of step `x`, which stands at `index`. -/
def Run.starting (n : SlotId) (script : Script) (index : Nat) (x : ScriptStep) (now : Time) : Run :=
  { slot := n
    script := script
    index := index
    half := x.firstHalf
    activity := x.firstActivity now
    retryCount := 0 }

theorem Run.starting_eq (n : SlotId) (script : Script) (index : Nat) (x : ScriptStep) (now : Time) :
    Run.starting n script index x now =
      { slot := n
        script := script
        index := index
        half := match x with
          | .echo _ _ _ _ => some .write
          | _ => none
        activity := match x with
          | .wait d => .pause (now + msec d)
          | _ => .issueWait now
        retryCount := 0 } := by
  cases x <;> rfl

section Steps

variable {b : Bridge} {g : Settings} {n : SlotId} {script : Script} {index : Nat}

theorem Bridge.beginStep_of_lt {k : Fin 12} (h : k.val < script.length) :
    b.beginStep g n script k.val
      = { b with run := some (Run.starting n script k.val (script.steps.get k) b.now) } := by
  have step : script.steps.toList[k.val]? = some (script.steps.get k) := by
    simp [Vector.get_eq_getElem]
  unfold Bridge.beginStep
  rw [if_pos h, step]
  rfl

theorem Bridge.beginStep_of_ge (h : script.length ≤ index) :
    b.beginStep g n script index = b.runPass g n := if_neg (Nat.not_lt.2 h)

theorem Bridge.runPass_of_qualifying (h : (b.slot n).stage = .qualifying) :
    b.runPass g n = if (b.slot n).restore = true ∧ (b.slot n).shadow ≠ [] then
        (b.endRun.writeQualResult n .pass).enterRestoring g n
      else (b.endRun.writeQualResult n .pass).enterAdmitted g n := by
  have held : ((b.slot n).restore && !(b.slot n).shadow.isEmpty) = true ↔
      (b.slot n).restore = true ∧ (b.slot n).shadow ≠ [] := by
    simp
  unfold Bridge.runPass
  rw [h]
  simp only [held]

theorem Bridge.stepFail_of_qualifying {r : Run} {cause : StepCause} {observed : Option Word}
    (h : (b.slot r.slot).stage = .qualifying) :
    b.stepFail g r cause observed
      = (b.endRun.writeQualResult r.slot (.fail r.index cause observed)).attemptFailure g r.slot
          (some .qualifyFail) := by
  simp only [Bridge.stepFail, h]

theorem Bridge.scriptExpired_of {r : Run} {i : BridgeTag} (hr : b.run = some r)
    (ha : r.activity = .awaitAnswer i) : b.scriptExpired g i = b.stepFail g r .expired none := by
  unfold Bridge.scriptExpired
  rw [hr]
  exact if_pos ha

theorem Bridge.replayExpired_of {r : Replay} (h : (b.slot n).stage = .restoring r) :
    b.replayExpired g n = b.replayFail g n .expired r.copyKey r.sent := by
  unfold Bridge.replayExpired
  rw [h]

end Steps

/-! ### Links (R124 to R126) -/

theorem Stage.reportsLinkLost_iff (x : Stage) :
    x.reportsLinkLost = true ↔ x = .admitted ∨ x = .qualifying ∨ (∃ r, x = .restoring r) ∨ x = .fenced := by
  cases x <;> simp [Stage.reportsLinkLost]

theorem Bridge.linkRise_of_linking {b : Bridge} {n : SlotId} {t : Time} (h : (b.slot n).stage = .linking t) :
    b.linkRise n = (b.setLink n true).enterQualifying n := by
  unfold Bridge.linkRise
  rw [h]

theorem Bridge.linkRise_of_not_linking {b : Bridge} {n : SlotId} (h : ∀ t, (b.slot n).stage ≠ .linking t) :
    b.linkRise n = b.setLink n true := by
  unfold Bridge.linkRise
  split
  · rename_i t e
    exact absurd e (h t)
  · rfl

theorem linkEvents : Parts.LinkEvents := by
  intro s n g up down joined reported
  have told : (s.bridge.slot n).stage.reportsLinkLost = true ↔ reported := Stage.reportsLinkLost_iff _
  refine ⟨fun ⟨t, h⟩ => ?_, fun h => ?_, fun h => ?_, fun h => ?_⟩
  · exact State.actSettled_eq_of (f := fun b _ => b.linkRise n) (Bridge.linkRise_of_linking h)
  · exact State.actSettled_eq_of (f := fun b _ => b.linkRise n) (Bridge.linkRise_of_not_linking h)
  · exact State.actSettled_eq_of (f := fun b g => b.linkFall g n) (if_pos (told.2 h))
  · exact State.actSettled_eq_of (f := fun b g => b.linkFall g n) (if_neg (mt told.1 h))

/-! ### What the end of a step settles (log 6, log 33) -/

theorem EntryStatus.isLost_iff (x : EntryStatus) : x.isLost = true ↔ ∃ a, x = .lost a := by
  cases x <;> simp [EntryStatus.isLost]

theorem Bridge.engineLostTag_eq_some {b : Bridge} {i : BridgeTag} :
    b.engineLostTag = some i ↔ ∃ r, b.run = some r ∧ r.activity = .awaitAnswer i ∧
      ∃ a, b.status i = .lost a := by
  unfold Bridge.engineLostTag
  rcases b.run with _ | r
  · simp
  · rcases ha : r.activity with j | j | j | j
    case awaitAnswer =>
      by_cases lost : (b.status j).isLost = true
      · simp only [lost, ha, if_true, Option.some.injEq, exists_eq_left', Activity.awaitAnswer.injEq]
        exact ⟨fun e => ⟨e, (EntryStatus.isLost_iff _).1 (e ▸ lost)⟩, And.left⟩
      · simp only [lost, ha, Option.some.injEq, exists_eq_left', Activity.awaitAnswer.injEq]
        exact iff_of_false nofun fun ⟨e, k⟩ => lost ((EntryStatus.isLost_iff _).2 (e ▸ k))
    all_goals simp [ha]

theorem Bridge.replayLost_iff {b : Bridge} {n : SlotId} :
    b.replayLost n = true ↔ ∃ r, (b.slot n).stage = .restoring r ∧ ∃ i, r.activity = .awaitAnswer i ∧
      ∃ a, b.status i = .lost a := by
  simp only [← Stage.replay_iff, ← EntryStatus.isLost_iff]
  unfold Bridge.replayLost
  rcases (b.slot n).stage.replay with _ | r
  · simp
  · rcases ha : r.activity with j | j | j | j <;> simp [ha]

/-- The first slot that a test finds. -/
theorem allSlots_find?_eq_some {p : SlotId → Bool} {n : SlotId} (h : p n = true)
    (first : ∀ m, m < n → p m = false) : allSlots.find? p = some n := by
  have at_place : ∀ j : Fin 4, allSlots[j.val]'j.isLt = j := by decide
  refine List.find?_eq_some_iff_getElem.2 ⟨h, n.val, n.isLt, at_place n, fun j hj => ?_⟩
  have small : j < 4 := Nat.lt_trans hj n.isLt
  have before : p (allSlots[j]'small) = false := (congrArg p (at_place ⟨j, small⟩)).trans (first ⟨j, small⟩ hj)
  exact congrArg not before

theorem Bridge.engineLostTag_eq_none {b : Bridge}
    (h : ∀ r, ¬ (b.run = some r ∧ ∃ i, r.activity = .awaitAnswer i ∧ ∃ a, b.status i = .lost a)) :
    b.engineLostTag = none := by
  refine Option.eq_none_iff_forall_ne_some.2 fun i e => ?_
  obtain ⟨r, hr, ha, hl⟩ := Bridge.engineLostTag_eq_some.1 e
  exact h r ⟨hr, i, ha, hl⟩

theorem Bridge.find_replayLost_eq_none {b : Bridge}
    (h : ∀ n r, ¬ ((b.slot n).stage = .restoring r ∧ ∃ i, r.activity = .awaitAnswer i ∧
      ∃ a, b.status i = .lost a)) : allSlots.find? b.replayLost = none :=
  List.find?_eq_none.2 fun n _ lost => (Bridge.replayLost_iff.1 lost).elim (h n)

section Settling

variable {b : Bridge} {g : Settings}

theorem Bridge.settled_iff :
    b.settled = true ↔ b.engineLostTag = none ∧ allSlots.find? b.replayLost = none ∧
      (b.run ≠ none ∨ b.qualQueue = []) := by
  simp [Bridge.settled, Option.isSome_iff_ne_none, and_assoc]

theorem Bridge.settleOne_start {n : SlotId} {rest : List SlotId} (engine : b.engineLostTag = none)
    (replays : allSlots.find? b.replayLost = none) (idle : b.run = none) (queue : b.qualQueue = n :: rest) :
    b.settleOne g = b.startRun g n rest := by
  unfold Bridge.settleOne
  rw [engine, replays, idle, queue]

/-- Once the engine has begun a step nothing is left to settle. -/
theorem Bridge.settle_started {n : SlotId} {rest : List SlotId} {script : Script} {index : Nat}
    {x : ScriptStep} (replays : allSlots.find? b.replayLost = none) :
    { b with qualQueue := rest, run := some (Run.starting n script index x b.now) }.settle g
      = { b with qualQueue := rest, run := some (Run.starting n script index x b.now) } := by
  refine Bridge.settle_of_settled g (Bridge.settled_iff.2 ⟨?_, replays, .inl nofun⟩)
  refine Bridge.engineLostTag_eq_none fun r ⟨hr, i, ha, _⟩ => ?_
  cases hr
  cases x <;> simp [Run.starting, ScriptStep.firstActivity] at ha

end Settling

theorem endOfStepSettled : Parts.EndOfStepSettled := by
  intro b g lost engineLost replayLost
  refine ⟨fun r ⟨hr, i, ha, hl⟩ => ?_, fun engine => ?_⟩
  · have one : b.settleOne g = b.stepFail g r .expired none := by
      unfold Bridge.settleOne
      rw [Bridge.engineLostTag_eq_some.2 ⟨r, hr, ha, hl⟩]
      exact Bridge.scriptExpired_of hr ha
    rw [Bridge.settle_settleOne, one]
  · have quiet := Bridge.engineLostTag_eq_none engine
    refine ⟨fun n r hn first => ?_, fun replays => ?_⟩
    · have found : allSlots.find? b.replayLost = some n :=
        allSlots_find?_eq_some (Bridge.replayLost_iff.2 ⟨r, hn⟩) fun m hm => Bool.eq_false_iff.2 fun k =>
          (Bridge.replayLost_iff.1 k).elim (first m · hm)
      have one : b.settleOne g = b.replayFail g n .expired r.copyKey r.sent := by
        unfold Bridge.settleOne
        rw [quiet, found]
        exact Bridge.replayExpired_of hn.1
      rw [Bridge.settle_settleOne, one]
      rfl
    · have calm := Bridge.find_replayLost_eq_none replays
      refine ⟨fun h => Bridge.settle_of_settled g (Bridge.settled_iff.2 ⟨quiet, calm, h⟩),
        fun n rest idle queue => ?_⟩
      intro script
      have one := Bridge.settleOne_start (g := g) quiet calm idle queue
      refine ⟨fun h => ?_, fun h stage => ?_⟩
      · intro first run
        have begun : b.startRun g n rest
            = { b with qualQueue := rest, run := some (Run.starting n script 0 first b.now) } :=
          Bridge.beginStep_of_lt (k := 0) h
        have same : Run.starting n script 0 first b.now = run := Run.starting_eq ..
        rw [Bridge.settle_settleOne, one, begun, Bridge.settle_started calm, same]
      · intro passed
        have ended : { b with qualQueue := rest }.endRun = { b with qualQueue := rest } := by
          unfold Bridge.endRun
          rw [← idle]
        have begun : b.startRun g n rest = if (b.slot n).restore = true ∧ (b.slot n).shadow ≠ [] then
            passed.enterRestoring g n else passed.enterAdmitted g n := by
          refine (Bridge.beginStep_of_ge (Nat.le_of_eq h)).trans
            ((Bridge.runPass_of_qualifying (b := { b with qualQueue := rest }) stage).trans ?_)
          rw [ended]
          rfl
        rw [Bridge.settle_settleOne, one, begun]
        split
        · rfl
        · rfl

/-- Settles O49: one round of settling is the step named, and a round first changes nothing of what is settled. -/
theorem linkEventsTaken : Obligations.LinkEventsTaken :=
  ⟨linkEvents, endOfStepSettled⟩

end Sys2Proof.Machine
end

section
/-! PROOFS. The bridge's own configuration requests: a script step's and a replay's (O51). -/

namespace Sys2Proof.Machine

open Sys2Proof Sys2Proof.Safety

/-! ### Requests sent (R135, R156) -/

theorem mergeBytes_zero (be : BitVec 4) (value : Word) : mergeBytes be 0 value = value &&& enableMask be := by
  simp [mergeBytes]

section Send

variable {b : Bridge} {g : Settings} {i : BridgeTag}

theorem Bridge.scriptSend_of {r : Run} {ready : Time} {x : ScriptStep} {body : ReqBody} {asked : Asked}
    (hr : b.run = some r) (ha : r.activity = .issueWait ready) (offered : b.offeredEntry g r.slot = some i)
    (room : (b.slot r.slot).egress.length < 32) (hx : r.step? = some x)
    (hb : x.request g r.slot r.half = some body) (hs : ReqBody.asked body = some asked) :
    b.scriptSend g = { b.sendOwn g r.slot i body asked (.script r.index) with
      run := some { r with activity := .awaitAnswer i } } := by
  have request : b.engineRequest g = some (r, body) := by
    unfold Bridge.engineRequest
    rw [hr]
    simp only [ha, hx, hb, Option.map_some]
  unfold Bridge.scriptSend
  rw [request]
  simp only [offered, hs]
  exact if_pos (Bridge.egressHasRoom_of room)

variable {n : SlotId} {r : Replay} {ready : Time}

theorem Bridge.replayIssuing_of (hs : (b.slot n).stage = .restoring r) (ha : r.activity = .issueWait ready) :
    b.replayIssuing n = some (r, ready) := (Bridge.replayIssuing_iff ..).2 ⟨hs, ha⟩

theorem Bridge.replaySend_first (hs : (b.slot n).stage = .restoring r) (ha : r.activity = .issueWait ready)
    (offered : b.offeredEntry g n = some i) (room : (b.slot n).egress.length < 32) (first : r.retryCount = 0)
    {x : ShadowKey} (hx : (b.slot n).shadow[r.cursor]? = some x) :
    b.replaySend g n = b.takeAndSend g n i r x := by
  unfold Bridge.replaySend
  rw [Bridge.replayIssuing_of hs ha, offered]
  simp only [if_pos (Bridge.egressHasRoom_of room), first, hx, if_true]

theorem Bridge.replaySend_again (hs : (b.slot n).stage = .restoring r) (ha : r.activity = .issueWait ready)
    (offered : b.offeredEntry g n = some i) (room : (b.slot n).egress.length < 32) (again : r.retryCount ≠ 0)
    {w : WriteCopy} (hw : r.copy = some w) : b.replaySend g n = b.sendCopy g n i r w := by
  unfold Bridge.replaySend
  rw [Bridge.replayIssuing_of hs ha, offered]
  simp only [if_pos (Bridge.egressHasRoom_of room), again, hw, if_false]

theorem Bridge.readShadow_clean {position : Nat} {x : ShadowKey} {event : ReadEvent}
    (h : (b.shadowWords.get x.number).flips + (b.shadowWords.get x.number).stuck = 0) :
    b.readShadow g n position x event
      = (b, some ((b.shadowWords.get x.number).union, (b.shadowWords.get x.number).value)) := by
  unfold Bridge.readShadow
  dsimp only
  rw [h]
  rfl

end Send

theorem scriptRequestSent : Parts.ScriptRequestSent := by
  intro s r ready i hr ha offered room range bus target sent
  refine ⟨fun f o mask value compare hx => ?_, fun f o be value hx => ?_, fun f o mask pattern hx half => ?_,
    fun f o mask pattern hx half => ?_⟩
  · exact State.act_eq_of (f := Bridge.scriptSend) (Bridge.scriptSend_of hr ha offered room hx rfl rfl)
  · have written : ScriptStep.request (.write f o be value) s.settings r.slot r.half
        = some (.cfgWrite (target f o) 4 be (bytesOf (value &&& enableMask be))) := by
      rw [← mergeBytes_zero]
      rfl
    exact State.act_eq_of (f := Bridge.scriptSend) (Bridge.scriptSend_of hr ha offered room hx written rfl)
  · have written : ScriptStep.request (.echo f o mask pattern) s.settings r.slot r.half
        = some (.cfgWrite (target f o) 4 0xF (bytesOf pattern)) := by
      have whole := congrArg (fun w => some (ReqBody.cfgWrite (target f o) 4 0xF (bytesOf w)))
        (mergeBytes_all 0 pattern)
      rw [half]
      exact whole
    exact State.act_eq_of (f := Bridge.scriptSend) (Bridge.scriptSend_of hr ha offered room hx written rfl)
  · have read : ScriptStep.request (.echo f o mask pattern) s.settings r.slot r.half
        = some (.cfgRead (target f o) 4 0xF) := by
      rw [half]
      rfl
    exact State.act_eq_of (f := Bridge.scriptSend) (Bridge.scriptSend_of hr ha offered room hx read rfl)

theorem replayWriteSent : Parts.ReplayWriteSent := by
  intro s n r ready i hs ha offered room range sent
  refine ⟨fun x first hx => ?_, fun w again hw => ?_⟩
  · intro c clean
    refine State.actSettled_eq_of (f := fun b g => b.replaySend g n) ?_
    refine (Bridge.replaySend_first hs ha offered room first hx).trans ?_
    rw [Bridge.takeAndSend, Bridge.readShadow_clean clean]
    rfl
  · exact State.actSettled_eq_of (f := fun b g => b.replaySend g n)
      (Bridge.replaySend_again hs ha offered room again hw)

/-- Settles O51: each request goes out when entry and room are offered, with the fields of Tables 6-4 and 7-6. -/
theorem configRequestsSent : Obligations.ConfigRequestsSent :=
  ⟨scriptRequestSent, replayWriteSent⟩

end Sys2Proof.Machine
end

section
/-! PROOFS. How the answers to the bridge's own requests are judged, and the timed moves of the engine and of a replay
(O50, O52). -/

namespace Sys2Proof.Machine

open Sys2Proof Sys2Proof.Safety

/-! ### The result record of a run stays (R142) -/

section Results

variable (b : Bridge) (g : Settings) (n : SlotId)

theorem Bridge.qualResult_attemptFailure (cause : Option ParkReason) :
    ((b.attemptFailure g n cause).slot n).qualResult = (b.slot n).qualResult := by
  have left := (b.leave_keeps g n).1
  by_cases h : (b.slot n).attempts < (g.policy n).maxAttempts
  · obtain ⟨ind, e⟩ := (b.leave g n).slot_enterResetting g n
    rw [Bridge.attemptFailure_again h, e, left]
    rfl
  · obtain ⟨ind, flags, e⟩ := (b.leave g n).slot_enterParked g n cause (decide ((g.policy n).parkPower = .keep))
    rw [Bridge.attemptFailure_last (Nat.le_of_not_lt h), e, left]
    rfl

theorem Bridge.qualResult_enterAdmitted :
    ((b.enterAdmitted g n).slot n).qualResult = (b.slot n).qualResult := by
  unfold Bridge.enterAdmitted
  dsimp only
  generalize hc : Bridge.setStage _ n .admitted = c
  obtain ⟨flags, e⟩ := c.raise_slot g (.slot n .admitted) n
  rw [e, ← hc, Bridge.setStage, Bridge.slot_modSlot_self, Bridge.slot_modSlot_self]

theorem Bridge.qualResult_modSlot {f : Slot → Slot} (h : ∀ x : Slot, (f x).qualResult = x.qualResult) :
    ((b.modSlot n f).slot n).qualResult = (b.slot n).qualResult := by
  rw [Bridge.slot_modSlot_self, h]

theorem Bridge.qualResult_replayNext :
    ((b.replayNext g n).slot n).qualResult = (b.slot n).qualResult := by
  unfold Bridge.replayNext
  split
  · split
    · exact (Bridge.qualResult_attemptFailure ..).trans (b.qualResult_modSlot n fun _ => rfl)
    · split
      · exact (Bridge.qualResult_enterAdmitted ..).trans (b.qualResult_modSlot n fun _ => rfl)
      · exact b.qualResult_modSlot n fun _ => rfl
  · rfl

theorem Bridge.qualResult_enterRestoring :
    ((b.enterRestoring g n).slot n).qualResult = (b.slot n).qualResult :=
  (Bridge.qualResult_replayNext ..).trans (b.qualResult_modSlot n fun _ => rfl)

theorem Bridge.qualResult_writeQualResult (x : QualResult) :
    ((b.writeQualResult n x).slot n).qualResult = some x := by
  rw [Bridge.writeQualResult, Bridge.slot_modSlot_self]

theorem Bridge.qualResult_runPass : ((b.runPass g n).slot n).qualResult = some .pass := by
  have written := b.endRun.qualResult_writeQualResult n .pass
  unfold Bridge.runPass
  dsimp only
  split
  · split
    · exact (Bridge.qualResult_enterRestoring ..).trans written
    · exact (Bridge.qualResult_enterAdmitted ..).trans written
  · exact written

theorem Bridge.qualResult_stepFail (r : Run) (cause : StepCause) (observed : Option Word) :
    ((b.stepFail g r cause observed).slot r.slot).qualResult = some (.fail r.index cause observed) := by
  have written := b.endRun.qualResult_writeQualResult r.slot (.fail r.index cause observed)
  unfold Bridge.stepFail
  dsimp only
  split
  · exact (Bridge.qualResult_attemptFailure ..).trans written
  · exact written

theorem Quieter.run_none {n : SlotId} {b c : Bridge} (h : Quieter n b c) (idle : b.run = none) :
    c.run = none := h.run.elim (fun e => e.trans idle) id

theorem Bridge.run_stepFail (r : Run) (cause : StepCause) (observed : Option Word) :
    (b.stepFail g r cause observed).run = none := by
  unfold Bridge.stepFail
  dsimp only
  split
  · exact (Quieter.attemptFailure r.slot _ g _).run_none rfl
  · rfl

theorem Bridge.run_runPass : (b.runPass g n).run = none := by
  unfold Bridge.runPass
  dsimp only
  split
  · split
    · exact ((Quieter.setStage n _ _).trans (Quieter.replayNext n _ g)).run_none rfl
    · exact (Quieter.enterAdmitted n _ g).run_none rfl
  · rfl

end Results

/-! ### Steps judged (R136 to R141) -/

section Judged

variable {b : Bridge} {g : Settings} {r : Run} {tag : BridgeTag} {data : List Byte}
  (hr : b.run = some r) (ha : r.activity = .awaitAnswer tag)

include hr ha

theorem Bridge.scriptAnswer_success {x : ScriptStep} (hx : r.step? = some x) :
    b.scriptAnswer g tag .success data = b.scriptSuccess g r x (wordOf data) := by
  unfold Bridge.scriptAnswer
  rw [hr]
  simp only [ha, hx, if_true]

theorem Bridge.scriptAnswer_aborted :
    b.scriptAnswer g tag .aborted data = b.stepFail g r .aborted none := by
  unfold Bridge.scriptAnswer
  rw [hr]
  exact if_pos ha

theorem Bridge.scriptAnswer_unsupported :
    b.scriptAnswer g tag .unsupported data = b.stepFail g r .unsupported none := by
  unfold Bridge.scriptAnswer
  rw [hr]
  exact if_pos ha

theorem Bridge.scriptAnswer_notReady : b.scriptAnswer g tag .notReady data = b.scriptRetry g r := by
  unfold Bridge.scriptAnswer
  rw [hr]
  exact if_pos ha

end Judged

theorem Bridge.scriptSuccess_readExpect (b : Bridge) (g : Settings) (r : Run) (word : Word)
    (f : BitVec 3) (o : BitVec 12) (mask value : Word) (compare : Compare) :
    b.scriptSuccess g r (.readExpect f o mask value compare) word
      = if (compare = .equal) = (word &&& mask = value &&& mask) then b.stepPass g r
        else b.stepFail g r .mismatch (some word) := by
  by_cases same : word &&& mask = value &&& mask
  · cases compare <;> simp [Bridge.scriptSuccess, same]
  · cases compare <;> simp [Bridge.scriptSuccess, same]

theorem scriptStepsJudged : Parts.ScriptStepsJudged := by
  intro b g r tag data hr ha word later passes
  refine ⟨fun f o mask value compare hx => ?_, fun f o be value hx => ?_, fun f o mask pattern hx half => ?_,
    fun f o mask pattern hx half => ?_, Bridge.scriptAnswer_aborted hr ha, Bridge.scriptAnswer_unsupported hr ha,
    Bridge.scriptAnswer_notReady hr ha, b.run_stepFail g r .expired none,
    b.qualResult_stepFail g r .expired none, fun last => ?_⟩
  · exact (Bridge.scriptAnswer_success hr ha hx).trans (b.scriptSuccess_readExpect g r word f o mask value compare)
  · exact Bridge.scriptAnswer_success hr ha hx
  · refine (Bridge.scriptAnswer_success hr ha hx).trans (if_neg ?_)
    rw [half]
    decide
  · exact (Bridge.scriptAnswer_success hr ha hx).trans (if_pos half)
  · rw [show passes = b.runPass g r.slot from Bridge.beginStep_of_ge last]
    exact ⟨b.run_runPass g r.slot, b.qualResult_runPass g r.slot⟩

theorem stepBegun : Parts.StepBegun := by
  intro b g n script index begun
  refine ⟨fun k hk h => ?_, fun h stage => ?_⟩
  · intro step run
    have same : Run.starting n script index step b.now = run := Run.starting_eq ..
    rw [← same]
    subst hk
    exact Bridge.beginStep_of_lt h
  · exact (Bridge.beginStep_of_ge h).trans (Bridge.runPass_of_qualifying stage)

/-! ### Replays judged (R91, R154 to R158) -/

section Replay

variable {b : Bridge} {g : Settings} {n : SlotId} {r : Replay} (hs : (b.slot n).stage = .restoring r)

include hs

theorem Bridge.replayNext_barred (h : (b.slot n).incomplete = true ∧ (g.policy n).shadowPolicy = .fail) :
    b.replayNext g n = (b.writeReplayResult n (.failed .incomplete none r.sent)).attemptFailure g n
      (some .shadowIncomplete) := by
  unfold Bridge.replayNext
  rw [hs]
  exact if_pos (by simpa using h)

theorem Bridge.replayNext_done (h : ¬ ((b.slot n).incomplete = true ∧ (g.policy n).shadowPolicy = .fail))
    (last : (b.slot n).shadow.length ≤ r.cursor) :
    b.replayNext g n = (b.writeReplayResult n (.done r.sent)).enterAdmitted g n := by
  unfold Bridge.replayNext
  rw [hs]
  exact (if_neg (by simpa using h)).trans (if_pos last)

theorem Bridge.replayNext_waits (h : ¬ ((b.slot n).incomplete = true ∧ (g.policy n).shadowPolicy = .fail))
    (more : r.cursor < (b.slot n).shadow.length) :
    b.replayNext g n = b.setReplay n { r with activity := .issueWait b.now, retryCount := 0 } := by
  unfold Bridge.replayNext
  rw [hs]
  exact (if_neg (by simpa using h)).trans (if_neg (Nat.not_le.2 more))

variable {tag : BridgeTag} (ha : r.activity = .awaitAnswer tag)

include ha

theorem Bridge.replayAnswer_success : b.replayAnswer g n tag .success = b.replayNext g n := by
  unfold Bridge.replayAnswer
  rw [hs]
  exact if_pos ha

theorem Bridge.replayAnswer_aborted :
    b.replayAnswer g n tag .aborted = b.replayFail g n .aborted r.copyKey r.sent := by
  unfold Bridge.replayAnswer
  rw [hs]
  exact if_pos ha

theorem Bridge.replayAnswer_unsupported :
    b.replayAnswer g n tag .unsupported = b.replayFail g n .unsupported r.copyKey r.sent := by
  unfold Bridge.replayAnswer
  rw [hs]
  exact if_pos ha

theorem Bridge.replayAnswer_notReady :
    b.replayAnswer g n tag .notReady
      = if r.retryCount < r.retryLimit then
          b.setReplay n
            { r with
              activity := .retryWait (b.now + msec r.retryInterval)
              retryCount := r.retryCount + 1 }
        else b.replayFail g n .retriesExhausted r.copyKey r.sent := by
  unfold Bridge.replayAnswer
  rw [hs]
  exact if_pos ha

end Replay

theorem replayAnswersJudged : Parts.ReplayAnswersJudged := by
  intro b g n tag r hs ha ended key fails waits barred
  have next : b.replayAnswer g n tag .success = b.replayNext g n := Bridge.replayAnswer_success hs ha
  refine ⟨Bridge.replayAnswer_aborted hs ha, Bridge.replayAnswer_unsupported hs ha, fun h => ?_, fun h => ?_,
    fun h => ?_, fun h last => ?_, fun h more => ?_⟩
  · exact (Bridge.replayAnswer_notReady hs ha).trans (if_neg (Nat.not_lt.2 h))
  · exact (Bridge.replayAnswer_notReady hs ha).trans (if_pos h)
  · exact next.trans (Bridge.replayNext_barred hs h)
  · exact next.trans (Bridge.replayNext_done hs h last)
  · exact next.trans (Bridge.replayNext_waits hs h more)

theorem Bridge.setReplay_self {b : Bridge} {n : SlotId} {r : Replay} (h : (b.slot n).stage = .restoring r) :
    b.setReplay n r = b := by
  have same : b.setReplay n r = b.modSlot n id := Bridge.modSlot_congr (by rw [← h]; rfl)
  have kept : b.slots.set n.val (b.slots.get n) = b.slots := Vector.set_getElem_self ..
  rw [same, Bridge.modSlot, id, Bridge.slot, kept]

/-- The replay that becomes active on entry to RESTORING. -/
def Replay.starting (g : Settings) (n : SlotId) (now : Time) : Replay :=
  { cursor := 0
    activity := .issueWait now
    copy := none
    retryCount := 0
    retryLimit := (g.slot n).script.retryLimit
    retryInterval := (g.slot n).script.retryInterval
    sent := 0 }

theorem replayStarts : Parts.ReplayStarts := by
  intro b g n started ended barred
  have entered : b.enterRestoring g n = started.replayNext g n := rfl
  have slot : started.slot n = _ := Bridge.slot_modSlot_self ..
  have stage : (started.slot n).stage = .restoring (.starting g n b.now) := by rw [slot]; rfl
  have incomplete : (started.slot n).incomplete = (b.slot n).incomplete := by rw [slot]
  have shadow : (started.slot n).shadow = (b.slot n).shadow := by rw [slot]
  have same : (started.slot n).incomplete = true ∧ (g.policy n).shadowPolicy = .fail ↔ barred := by
    rw [incomplete]
  rw [entered]
  have unsent : (Replay.starting g n b.now).sent = 0 := rfl
  refine ⟨fun h => ?_, fun h empty => ?_, fun h held => ?_⟩
  · rw [Bridge.replayNext_barred stage (same.2 h), unsent]
    rfl
  · have none_left : (started.slot n).shadow.length ≤ (Replay.starting g n b.now).cursor := by
      rw [shadow, empty]
      exact Nat.zero_le _
    rw [Bridge.replayNext_done stage (mt same.1 h) none_left, unsent]
    rfl
  · have more : 0 < (started.slot n).shadow.length := by
      rw [shadow]
      exact List.length_pos_iff.2 held
    have now : started.now = b.now := rfl
    rw [Bridge.replayNext_waits stage (mt same.1 h) more, now]
    exact Bridge.setReplay_self stage

theorem expiryTold : Parts.ExpiryTold := fun _ _ _ =>
  ⟨fun _ hr ha => Bridge.scriptExpired_of hr ha, fun _ _ hs => Bridge.replayExpired_of hs⟩

/-- Settles O50: an answer is judged by the run's step or the replay's cursor, and neither an attempt failure nor an
entry that follows changes the result written. -/
theorem ownAnswersJudged : Obligations.OwnAnswersJudged :=
  ⟨scriptStepsJudged, replayAnswersJudged, stepBegun,
    fun _ _ _ _ _ h => Bridge.stepFail_of_qualifying h, replayStarts, expiryTold⟩

/-! ### Timed moves (R135, R140, R141, R156 to R158) -/

section Timers

variable {b : Bridge} {g : Settings} {t : Time}

theorem Bridge.scriptIssueDue_of {r : Run} (hr : b.run = some r) (ha : r.activity = .issueWait t)
    (due : reached b.now (t + g.slotBudget r.slot) = true) : b.scriptIssueDue g = some r := by
  unfold Bridge.scriptIssueDue
  rw [hr]
  simp only [ha, due, if_true]

theorem Bridge.scriptRetryDue_of {r : Run} (hr : b.run = some r) (ha : r.activity = .retryWait t)
    (due : reached b.now t = true) : b.scriptRetryDue = some r := by
  unfold Bridge.scriptRetryDue
  rw [hr]
  simp only [ha, due, if_true]

theorem Bridge.scriptWaitDue_of {r : Run} (hr : b.run = some r) (ha : r.activity = .pause t)
    (due : reached b.now t = true) : b.scriptWaitDue = some r := by
  unfold Bridge.scriptWaitDue
  rw [hr]
  simp only [ha, due, if_true]

variable {n : SlotId} {r : Replay}

theorem Bridge.replayIssueDue_of (hs : (b.slot n).stage = .restoring r) (ha : r.activity = .issueWait t)
    (due : reached b.now (t + g.slotBudget n) = true) : b.replayIssueDue g n = some r := by
  unfold Bridge.replayIssueDue
  rw [Bridge.replayIssuing_of hs ha]
  exact if_pos due

theorem Bridge.replayRetryDue_of (hs : (b.slot n).stage = .restoring r) (ha : r.activity = .retryWait t)
    (due : reached b.now t = true) : b.replayRetryDue n = some r := by
  unfold Bridge.replayRetryDue
  rw [(Stage.replay_iff _ r).2 hs]
  simp only [ha, due, if_true]

end Timers

theorem scriptTimers : Parts.ScriptTimers := by
  refine fun s r t hr => ⟨fun ha due => ?_, fun ha due => ?_, fun ha due => ?_⟩
  · refine State.actSettled_eq_of (f := Bridge.scriptIssueTimeout) ?_
    rw [Bridge.scriptIssueTimeout, Bridge.scriptIssueDue_of hr ha due]
  · refine State.act_eq_of (f := fun b _ => b.scriptRetryResume) ?_
    rw [Bridge.scriptRetryResume, Bridge.scriptRetryDue_of hr ha due]
  · refine State.actSettled_eq_of (f := Bridge.scriptWaitEnd) ?_
    rw [Bridge.scriptWaitEnd, Bridge.scriptWaitDue_of hr ha due]
    rfl

theorem replayTimers : Parts.ReplayTimers := by
  intro s n r t hs key
  refine ⟨fun ha due => ?_, fun ha due => ?_⟩
  · refine State.actSettled_eq_of (f := fun b g => b.replayIssueTimeout g n) ?_
    rw [Bridge.replayIssueTimeout, Bridge.replayIssueDue_of hs ha due]
    rfl
  · refine State.act_eq_of (f := fun b _ => b.replayRetryResume n) ?_
    rw [Bridge.replayRetryResume, Bridge.replayRetryDue_of hs ha due]
    rfl

/-- Settles O52: each timed move acts on the run or the replay that its guard finds. -/
theorem scriptAndReplayTimers : Obligations.ScriptAndReplayTimers := ⟨scriptTimers, replayTimers⟩

end Sys2Proof.Machine
end

section
/-! PROOFS. The capture of writes in a slot's shadow, and the record that a new key takes (O53). -/

namespace Sys2Proof.Machine

open Sys2Proof Sys2Proof.Safety

/-! ### Where a key stands -/

theorem keyPosition_eq_none {function : BitVec 3} {offset : BitVec 12} {l : List ShadowKey}
    (h : ∀ x ∈ l, ¬ (x.function = function ∧ x.offset = offset)) : keyPosition function offset l = none :=
  List.findIdx?_eq_none_iff.2 fun x hx => by simpa using h x hx

/-- The first record of a key gives the key its position. -/
theorem keyPosition_append_cons {pre post : List ShadowKey} {x : ShadowKey}
    (h : ∀ y ∈ pre, ¬ (y.function = x.function ∧ y.offset = x.offset)) :
    keyPosition x.function x.offset (pre ++ x :: post) = some pre.length := by
  have before := keyPosition_eq_none h
  unfold keyPosition at before ⊢
  rw [List.findIdx?_append, before, List.findIdx?_cons]
  simp

/-! ### Table 7-3 (R148 to R154) -/

theorem excluded_iff (g : Settings) (n : SlotId) (offset : BitVec 12) :
    g.excluded n offset = true ↔ ∃ k : Fin 4, ((g.slot n).exclusions.get k).valid = true ∧
      ((g.slot n).exclusions.get k).first.toNat ≤ offset.toNat ∧
      offset.toNat ≤ ((g.slot n).exclusions.get k).last.toNat := by
  unfold Settings.excluded
  rw [List.any_eq_true]
  simp only [Bool.and_eq_true, decide_eq_true_eq, and_assoc]
  constructor
  · rintro ⟨e, he, fits⟩
    obtain ⟨k, hk, rfl⟩ := Vector.mem_iff_getElem.1 (Vector.mem_toList_iff.1 he)
    exact ⟨⟨k, hk⟩, fits⟩
  · rintro ⟨k, fits⟩
    exact ⟨_, Vector.mem_toList_iff.2 (Vector.getElem_mem k.isLt), fits⟩

section Offers

variable {b : Bridge} {g : Settings} {n : SlotId} {bus : BitVec 8} {f : BitVec 3} {o : BitVec 12}
  {be : BitVec 4} {payload : Word}

theorem Bridge.offerWrite_offBus
    (h : ¬ ((g.slot n).busRange.valid = true ∧ bus = (g.slot n).busRange.first)) :
    b.offerWrite g n bus f o be payload = (b, false) :=
  if_pos (by simpa [or_iff_not_imp_left] using h)

variable (on : (g.slot n).busRange.valid = true ∧ bus = (g.slot n).busRange.first)

include on

theorem Bridge.offerWrite_onBus :
    b.offerWrite g n bus f o be payload
      = if be = 0 then (b, true)
        else if g.excluded n o then (b, false)
        else
          match keyPosition f o (b.slot n).shadow with
          | some position =>
            match (b.slot n).shadow[position]? with
            | some x => (b.mergeShadow g n position x be payload, true)
            | none => (b, false)
          | none =>
            if (b.slot n).shadow.length < (g.policy n).shadowLimit then
              (b.newShadowRecord n f o be payload, true)
            else (b.setIncomplete n, false) :=
  if_neg (by simpa using on)

theorem Bridge.offerWrite_noBytes (h : be = 0) : b.offerWrite g n bus f o be payload = (b, true) :=
  (Bridge.offerWrite_onBus on).trans (if_pos h)

variable (some_bytes : be ≠ 0)

include some_bytes

theorem Bridge.offerWrite_excluded (h : g.excluded n o = true) :
    b.offerWrite g n bus f o be payload = (b, false) :=
  (Bridge.offerWrite_onBus on).trans ((if_neg some_bytes).trans (if_pos h))

variable (kept : g.excluded n o = false)

include kept

theorem Bridge.offerWrite_new
    (h : ∀ x ∈ (b.slot n).shadow, ¬ (x.function = f ∧ x.offset = o)) :
    b.offerWrite g n bus f o be payload
      = if (b.slot n).shadow.length < (g.policy n).shadowLimit then
          (b.newShadowRecord n f o be payload, true)
        else (b.setIncomplete n, false) := by
  rw [Bridge.offerWrite_onBus on, if_neg some_bytes, if_neg (by simp [kept]), keyPosition_eq_none h]

end Offers

theorem Bridge.offerWrite_held {b : Bridge} {g : Settings} {n : SlotId} {bus : BitVec 8} {be : BitVec 4}
    {payload : Word} {pre post : List ShadowKey} {x : ShadowKey}
    (on : (g.slot n).busRange.valid = true ∧ bus = (g.slot n).busRange.first) (some_bytes : be ≠ 0)
    (kept : g.excluded n x.offset = false) (list : (b.slot n).shadow = pre ++ x :: post)
    (first : ∀ y ∈ pre, ¬ (y.function = x.function ∧ y.offset = x.offset)) :
    b.offerWrite g n bus x.function x.offset be payload
      = (b.mergeShadow g n pre.length x be payload, true) := by
  have held : (b.slot n).shadow[pre.length]? = some x := by
    rw [list]
    simp
  have position : keyPosition x.function x.offset (b.slot n).shadow = some pre.length := by
    rw [list, keyPosition_append_cons first]
  rw [Bridge.offerWrite_onBus on, if_neg some_bytes, if_neg (by simp [kept]), position]
  dsimp only
  rw [held]

theorem Bridge.newShadowRecord_of {b : Bridge} {n : SlotId} {f : BitVec 3} {o : BitVec 12} {be : BitVec 4}
    {payload : Word} {k : RecordId} (h : b.lowestFreeRecord = some k) :
    b.newShadowRecord n f o be payload
      = (b.writeShadow k be (payload &&& enableMask be)).modSlot n fun s =>
          { s with shadow := s.shadow ++ [{ number := k, function := f, offset := o }] } := by
  unfold Bridge.newShadowRecord
  rw [h, mergeBytes_zero]

theorem shadowKeepsNewKey : Parts.ShadowKeepsNewKey := by
  intro b g n bus f o be payload range onBus offered
  refine ⟨Bridge.offerWrite_offBus, Bridge.offerWrite_noBytes, Bridge.offerWrite_excluded,
    fun on some_bytes kept absent => ?_⟩
  have new : offered = _ := Bridge.offerWrite_new on some_bytes kept absent
  refine ⟨fun full => ?_, fun k room free => ?_⟩
  · exact new.trans (if_neg (Nat.not_lt.2 full))
  · rw [new, if_pos room, Bridge.newShadowRecord_of free]

/-! ### A held key (R151, R159) -/

theorem readOutcome_of_two {bad : Nat} (h : 2 ≤ bad) : readOutcome bad = .uncorrectable := by
  obtain ⟨k, rfl⟩ := Nat.exists_eq_add_of_le' h
  rfl

theorem Bridge.slot_noteCorrection (b : Bridge) (g : Settings) (n : SlotId) :
    (b.noteCorrection g).slot n = b.slot n := (OrtShrinks.noteCorrection b g).frame.slot n

section Held

variable {b : Bridge} {g : Settings} {n : SlotId} {x : ShadowKey} {pre post : List ShadowKey}

/-- What a read that finds at most one bad bit gives. -/
theorem Bridge.readShadow_readable {position : Nat} {event : ReadEvent}
    (h : (b.shadowWords.get x.number).flips + (b.shadowWords.get x.number).stuck ≤ 1) :
    b.readShadow g n position x event
      = (if (b.shadowWords.get x.number).flips + (b.shadowWords.get x.number).stuck = 0 then b
          else (b.writeShadow x.number (b.shadowWords.get x.number).union
            (b.shadowWords.get x.number).value).noteCorrection g,
        some ((b.shadowWords.get x.number).union, (b.shadowWords.get x.number).value)) := by
  by_cases clean : (b.shadowWords.get x.number).flips + (b.shadowWords.get x.number).stuck = 0
  · rw [if_pos clean]
    exact Bridge.readShadow_clean clean
  · have one : (b.shadowWords.get x.number).flips + (b.shadowWords.get x.number).stuck = 1 := by omega
    rw [if_neg clean]
    unfold Bridge.readShadow
    dsimp only
    rw [one]
    rfl

theorem Bridge.readShadow_bad {position : Nat} {event : ReadEvent}
    (h : 2 ≤ (b.shadowWords.get x.number).flips + (b.shadowWords.get x.number).stuck) :
    b.readShadow g n position x event
      = (((b.removeRecord n position).setIncomplete n).noteUncorrectable g
          (.shadow x.number x.function x.offset) n event, none) := by
  unfold Bridge.readShadow
  dsimp only
  rw [readOutcome_of_two h]

theorem Bridge.mergeShadow_bad {position : Nat} {be : BitVec 4} {payload : Word}
    (h : 2 ≤ (b.shadowWords.get x.number).flips + (b.shadowWords.get x.number).stuck) :
    b.mergeShadow g n position x be payload
      = (((b.removeRecord n position).setIncomplete n).noteUncorrectable g
          (.shadow x.number x.function x.offset) n .merge).newShadowRecord n x.function x.offset be payload := by
  unfold Bridge.mergeShadow
  rw [Bridge.readShadow_bad h]

theorem Bridge.moveIfTaken_stays {position : Nat}
    (h : ∀ r, (b.slot n).stage = .restoring r → r.cursor ≤ position) : b.moveIfTaken n position x = b := by
  unfold Bridge.moveIfTaken
  cases hr : (b.slot n).stage.replay with
  | none => rfl
  | some r => exact if_neg (Nat.not_lt.2 (h r (Stage.replay_eq_some hr)))

theorem eraseIdx_append_cons {α : Type} (pre post : List α) (x : α) : 
    (pre ++ x :: post).eraseIdx pre.length = pre ++ post := by
  rw [List.eraseIdx_append_of_length_le (Nat.le_refl _), Nat.sub_self, List.eraseIdx_cons_zero]

theorem Bridge.moveIfTaken_moves (list : (b.slot n).shadow = pre ++ x :: post) {r : Replay}
    (hs : (b.slot n).stage = .restoring r) (taken : pre.length < r.cursor) :
    b.moveIfTaken n pre.length x = b.modSlot n fun y =>
      { y with
        shadow := pre ++ post ++ [x]
        stage := .restoring { r with cursor := r.cursor - 1 } } := by
  unfold Bridge.moveIfTaken
  rw [(Stage.replay_iff _ r).2 hs]
  refine (if_pos taken).trans ?_
  rw [Bridge.removeRecord, Bridge.modSlot_modSlot]
  refine Bridge.modSlot_congr ?_
  rw [list, hs, eraseIdx_append_cons]
  simp only [Stage.mapCursor, if_pos taken]

end Held

theorem shadowMergesHeldKey : Parts.ShadowMergesHeldKey := by
  intro b g n bus be payload pre post x range valid on some_bytes kept list first offered w read merged
  have held : offered = (b.mergeShadow g n pre.length x be payload, true) :=
    Bridge.offerWrite_held ⟨valid, on⟩ some_bytes kept list first
  rw [held]
  refine ⟨fun readable => ?_, fun bad => ?_⟩
  · have merge : b.mergeShadow g n pre.length x be payload = merged.moveIfTaken n pre.length x := by
      unfold Bridge.mergeShadow
      rw [Bridge.readShadow_readable readable]
      rfl
    have slot : merged.slot n = b.slot n := by
      show read.slot n = b.slot n
      show (if w.flips + w.stuck = 0 then b
        else (b.writeShadow x.number w.union w.value).noteCorrection g).slot n = b.slot n
      split
      · rfl
      · exact Bridge.slot_noteCorrection ..
    rw [merge]
    refine ⟨fun stays => ?_, fun r hs taken => ?_⟩
    · rw [Bridge.moveIfTaken_stays (by rwa [slot])]
    · rw [Bridge.moveIfTaken_moves (slot ▸ list) (slot ▸ hs) taken]
  · intro lost k free
    have removed : (b.removeRecord n pre.length).setIncomplete n = b.modSlot n fun y =>
        { y with
          shadow := pre ++ post
          incomplete := true
          stage := match y.stage with
            | .restoring r => .restoring
                { r with cursor := if pre.length < r.cursor then r.cursor - 1 else r.cursor }
            | stage => stage } := by
      rw [Bridge.removeRecord, Bridge.setIncomplete, Bridge.modSlot_modSlot]
      refine Bridge.modSlot_congr ?_
      rw [list, eraseIdx_append_cons]
      rcases (b.slot n).stage <;> rfl
    have merge : b.mergeShadow g n pre.length x be payload
        = lost.newShadowRecord n x.function x.offset be payload :=
      (Bridge.mergeShadow_bad bad).trans (congrArg (fun c : Bridge =>
        (c.noteUncorrectable g (.shadow x.number x.function x.offset) n .merge).newShadowRecord n
          x.function x.offset be payload) removed)
    have shadow : ((lost.writeShadow k be (payload &&& enableMask be)).slot n).shadow = pre ++ post := by
      show (lost.slot n).shadow = pre ++ post
      rw [show lost = Bridge.noteUncorrectable (b.modSlot n _) _ _ _ _ from rfl,
        (OrtShrinks.noteUncorrectable _ g _ n .merge).frame.slot n, Bridge.slot_modSlot_self]
    rw [merge, Bridge.newShadowRecord_of free]
    refine congrArg (·, true) (Bridge.modSlot_congr ?_)
    rw [shadow]

/-! ### The record a new key takes (R146) -/

theorem Bridge.lowestFreeRecord_eq_some {b : Bridge} {k : RecordId} :
    b.lowestFreeRecord = some k ↔ (¬ ∃ n : SlotId, ∃ x ∈ (b.slot n).shadow, x.number = k) ∧
      ∀ j, j < k → ∃ n : SlotId, ∃ x ∈ (b.slot n).shadow, x.number = j := by
  unfold Bridge.lowestFreeRecord
  simp only [find?_finRange_eq_some, ← Bridge.recordTaken_iff]
  simp

/-- A free record is there while the lists hold fewer records than there are. -/
theorem Bridge.lowestFreeRecord_of_room {b : Bridge}
    (h : sumSlots (fun n => (b.slot n).shadow.length) < 384) : ∃ k, b.lowestFreeRecord = some k := by
  refine Option.ne_none_iff_exists'.1 fun full => ?_
  have taken : List.finRange 384 ⊆ allSlots.flatMap fun n => (b.slot n).shadow.map ShadowKey.number := by
    intro k hk
    have used := List.find?_eq_none.1 full k hk
    obtain ⟨n, x, hx, e⟩ := (b.recordTaken_iff k).1 (by simpa using used)
    exact List.mem_flatMap.2 ⟨n, mem_allSlots n, List.mem_map.2 ⟨x, hx, e⟩⟩
  have fits := (List.subperm_of_subset (List.nodup_finRange 384) taken).length_le
  simp [allSlots, sumSlots] at fits h
  omega

theorem freeRecordTaken : Parts.FreeRecordTaken := by
  refine ⟨fun b k => Bridge.lowestFreeRecord_eq_some, fun b => Bridge.lowestFreeRecord_of_room,
    fun s n law => ?_⟩
  obtain ⟨⟨-, -, -, limits, -, -⟩, lists⟩ := law
  have fits : ∀ m, (s.bridge.slot m).shadow.length ≤ (s.settings.policy m).shadowLimit := fun m => (lists m).1
  refine ⟨fun room => ?_, fun position inside => ?_⟩
  · exact Bridge.lowestFreeRecord_of_room (Nat.lt_of_lt_of_le (sumSlots_lt n fits room) limits)
  · have shorter : ((s.bridge.removeRecord n position).slot n).shadow.length
        = (s.bridge.slot n).shadow.length - 1 := by
      rw [Bridge.removeRecord, Bridge.slot_modSlot_self]
      exact List.length_eraseIdx_of_lt inside
    have other : ∀ m, m ≠ n → (s.bridge.removeRecord n position).slot m = s.bridge.slot m :=
      fun m hm => Bridge.slot_modSlot_ne _ _ hm
    have le : ∀ m, ((s.bridge.removeRecord n position).slot m).shadow.length
        ≤ (s.settings.policy m).shadowLimit := fun m => by
      by_cases e : m = n
      · subst e
        rw [shorter]
        exact Nat.le_trans (Nat.sub_le ..) (fits m)
      · rw [other m e]
        exact fits m
    refine Bridge.lowestFreeRecord_of_room (Nat.lt_of_lt_of_le (sumSlots_lt n le ?_) limits)
    have := fits n
    rw [shorter]
    omega

/-- Settles O53: an offer is Table 7-3's case of it, the read of a held record tells a merge from a loss, and fewer
than 384 listed numbers leave one free. -/
theorem shadowCapture : Obligations.ShadowCapture :=
  ⟨shadowKeepsNewKey, shadowMergesHeldKey, excluded_iff, freeRecordTaken⟩

end Sys2Proof.Machine
end

section
/-! PROOFS. How a management command ends in its cell, and the commands on windows and bus ranges (O54, O55). -/

namespace Sys2Proof.Machine

open Sys2Proof Sys2Proof.Safety

/-! ### A command at the head (R189) -/

/-- The command whose cell is at the head answers it. -/
theorem State.process_of {s : State} {op : Nat} {k : CellId} {a : Vector Word 8}
    {command : Vector Word 8 → Settings → Bridge → Answer} {x : Answer} (h : atHead s op k a)
    (hx : command a s.settings s.bridge = x) : s.process op command = .next (s.finish k a x) := by
  rw [State.process_head h.1 h.2, hx]

theorem slotOf_eq_some {a : Vector Word 8} {n : SlotId} : slotOf a = some n ↔ slotField a = n.val := by
  unfold slotOf
  split
  · simp [Fin.ext_iff]
  · rename_i h
    exact iff_of_false nofun fun e => h (e ▸ n.isLt)

theorem withSlot_of {a : Vector Word 8} {n : SlotId} (f : SlotId → Answer) (h : slotOf a = some n) :
    withSlot a f = f n := by
  rw [withSlot, h]

theorem withSlot_of_high {a : Vector Word 8} (f : SlotId → Answer) (h : 4 ≤ slotField a) :
    withSlot a f = .refused .badArgument := by
  have none_named : slotOf a = none := dif_neg (Nat.not_lt.2 h)
  rw [withSlot, none_named]

/-- The status an answer gives its cell. -/
def Answer.status : Answer → CmdStatus
  | .refused status => status
  | .done _ _ _ => .done

/-- The results an answer gives its cell. -/
def Answer.results : Answer → Vector Word 7
  | .refused _ => Vector.replicate 7 0
  | .done _ _ results => results

theorem State.finish_answer (s : State) (k : CellId) (a : Vector Word 8) (x : Answer) :
    ((s.finish k a x).mgmt.cells.get k).status = x.status ∧
      ((s.finish k a x).mgmt.cells.get k).results = x.results ∧
      ((s.finish k a x).mgmt.cells.get k).allClear = (s.finish k a x).bridge.allClear (slotOf a) := by
  cases x <;> simp [State.finish, Mgmt.complete, Answer.status, Answer.results, noResults]

theorem Bridge.allClear_iff (b : Bridge) (a : Vector Word 8) :
    b.allClear (slotOf a) = true ↔ ∃ n : SlotId, slotField a = n.val ∧ (b.slot n).flags = 0 ∧
      { (b.slot n).fault with recoveries := 0 } = FaultRecord.reset := by
  simp only [← slotOf_eq_some]
  cases slotOf a with
  | none => simp [Bridge.allClear]
  | some n => simp [Bridge.allClear, FaultRecord.isEmpty, and_comm]

theorem commandEndsInItsCell : Parts.CommandEndsInItsCell := by
  intro s k a x t status results clear
  have is_status : x.status = status := by cases x <;> rfl
  have is_results : x.results = results := by cases x <;> rfl
  obtain ⟨done, echo, request⟩ := s.finish_cell k a x
  obtain ⟨answered, result, all_clear⟩ := s.finish_answer k a x
  refine ⟨done, answered.trans is_status, echo, result.trans is_results, ?_, request,
    fun j h => s.finish_cells_ne a x h, s.finish_queue k a x, s.finish_collisions k a x,
    s.finish_pending k a x, ?_⟩
  · rw [show (t.mgmt.cells.get k).allClear = _ from all_clear]
    exact Bridge.allClear_iff _ a
  · rintro refusal e
    subst e
    exact s.finish_refused k a refusal

theorem badOpcodeAndSlotRefused : Parts.BadOpcodeAndSlotRefused := by
  refine fun s k a head => ⟨fun unknown => ?_, fun p hp op high => ?_⟩
  · show execBadOpcode s = _
    unfold execBadOpcode
    rw [head]
    exact if_neg unknown
  · have refuses {f : SlotId → Answer} := withSlot_of_high f high
    simp only [slotCommands, List.mem_cons, List.not_mem_nil, or_false] at hp
    rcases hp with rfl | rfl | rfl | rfl | rfl | rfl | rfl | rfl | rfl | rfl | rfl | rfl | rfl | rfl | rfl |
      rfl | rfl | rfl
    all_goals exact State.process_of ⟨head, op⟩ refuses

/-- Settles O54: an answer is written to its cell, and a command that names no slot is refused before its effect. -/
theorem commandEnds : Obligations.CommandEnds :=
  ⟨commandEndsInItsCell, badOpcodeAndSlotRefused, fun _ => ⟨rfl, rfl, fun _ => slotOf_eq_some, rfl⟩⟩

/-! ### Windows (R5, R6) -/

theorem Window.boundsFit_iff (w : Window) :
    w.boundsFit = true ↔ w.base.toNat % 4096 = 0 ∧ w.limit.toNat % 4096 = 4095 ∧
      w.base.toNat ≤ w.limit.toNat := by
  simp [Window.boundsFit, and_assoc]

theorem Window.rivals_iff (v w : Window) :
    v.rivals w = true ↔ (∃ x y, v.kind = .decode x ∧ w.kind = .decode y) ∨
      ∃ x y, v.kind = .grant x ∧ w.kind = .grant y ∧ v.owner = w.owner := by
  unfold Window.rivals
  cases v.kind <;> cases w.kind <;> simp

theorem Window.conflicts_iff (v w : Window) :
    v.conflicts w = true ↔ v.base.toNat ≤ w.limit.toNat ∧ w.base.toNat ≤ v.limit.toNat ∧
      ((∃ x y, v.kind = .decode x ∧ w.kind = .decode y) ∨
        ∃ x y, v.kind = .grant x ∧ w.kind = .grant y ∧ v.owner = w.owner) := by
  rw [← Window.rivals_iff]
  simp only [Window.conflicts, Window.overlaps, Bool.and_eq_true, decide_eq_true_eq]
  tauto

theorem Settings.overlapsOther_iff (g : Settings) (i : Fin 48) (w : Window) :
    g.overlapsOther i.val w = true ↔ ∃ (j : Fin 48) (v : Window), j ≠ i ∧ g.windows.get j = some v ∧
      v.conflicts w = true := by
  simp only [Settings.overlapsOther, List.any_eq_true, List.mem_finRange, true_and, Bool.and_eq_true,
    decide_eq_true_eq, Fin.val_ne_iff]
  constructor
  · rintro ⟨j, hj, hv⟩
    cases at_j : g.windows.get j with
    | none => simp [at_j] at hv
    | some v => exact ⟨j, v, hj, at_j, by simpa [at_j] using hv⟩
  · rintro ⟨j, v, hj, at_j, hv⟩
    exact ⟨j, hj, by simpa [at_j] using hv⟩

theorem Settings.putWindow_fin (g : Settings) (i : Fin 48) (w : Option Window) :
    g.putWindow i.val w = { g with windows := g.windows.set i w } := by
  have inside : g.windows.setIfInBounds i.val w = g.windows.set i w :=
    Vector.ext fun j hj => by rw [Vector.getElem_setIfInBounds, Vector.getElem_set]
  rw [Settings.putWindow, inside]

section Commands

variable {a : Vector Word 8} {g : Settings} {b : Bridge} {i : Fin 48} {owner : SlotId}

theorem setWindow_high (high : 48 ≤ windowIndex a) : setWindow a g b = .refused .badArgument := by
  have past : 47 < windowIndex a := high
  unfold setWindow withSlot
  cases slotOf a with
  | none => rfl
  | some n => simp [past]

theorem clearWindow_high (high : 48 ≤ windowIndex a) : clearWindow a g b = .refused .badArgument :=
  if_pos high

variable (index : windowIndex a = i.val)

include index

theorem clearWindow_index :
    clearWindow a g b = .done { g with windows := g.windows.set i none } b noResults := by
  have low : ¬ 47 < windowIndex a := by omega
  rw [clearWindow, if_neg low, index, Settings.putWindow_fin]
  rfl

theorem setWindow_index (named : slotOf a = some owner) :
    setWindow a g b = if (windowOf a owner).boundsFit = true then
        if g.overlapsOther i.val (windowOf a owner) = true then .refused .overlap
        else .done { g with windows := g.windows.set i (some (windowOf a owner)) } b noResults
      else .refused .badArgument := by
  have low : ¬ 47 < windowIndex a := by omega
  rw [setWindow, withSlot_of _ named]
  dsimp only
  rw [index] at low ⊢
  rw [Settings.putWindow_fin]
  cases (windowOf a owner).boundsFit <;> simp [low, doneUnchanged]

end Commands

theorem windowCommands : Parts.WindowCommands := by
  intro s k a g answers word index access kind
  refine ⟨fun i hi => ?_, fun high => ⟨fun head => ?_, fun head => ?_⟩⟩
  · intro put
    refine ⟨fun owner head named => ?_, fun head => State.process_of head (clearWindow_index hi)⟩
    intro w fits shares
    have carried : windowOf a owner = w := rfl
    have bounds : w.boundsFit = true ↔ fits := Window.boundsFit_iff w
    have overlap : g.overlapsOther i.val w = true ↔ shares := by
      rw [Settings.overlapsOther_iff]
      simp only [Window.conflicts_iff]
      rfl
    have command := setWindow_index (g := g) (b := s.bridge) hi named
    rw [carried] at command
    refine ⟨fun fit apart => State.process_of head ?_, fun fit share => State.process_of head ?_,
      fun misfit => State.process_of head ?_⟩
    · rw [command, if_pos (bounds.2 fit), if_neg (mt overlap.1 apart)]
    · rw [command, if_pos (bounds.2 fit), if_pos (overlap.2 share)]
    · rw [command, if_neg (mt bounds.1 misfit)]
  · exact State.process_of head (setWindow_high high)
  · exact State.process_of head (clearWindow_high high)

/-! ### Bus ranges (R7) -/

theorem Settings.busConflict_iff (g : Settings) (n : SlotId) (x : BusRange) :
    g.busConflict n x = true ↔ ∃ m : SlotId, m ≠ n ∧ (g.slot m).busRange.valid = true ∧ x.valid = true ∧
      (g.slot m).busRange.first.toNat ≤ x.last.toNat ∧ x.first.toNat ≤ (g.slot m).busRange.last.toNat := by
  simp [Settings.busConflict, BusRange.conflicts, mem_allSlots, and_assoc]

theorem busRangeCommand : Parts.BusRangeCommand := by
  intro s k a n head named g x ordered shares answers
  have conflict : g.busConflict n x = true ↔ shares := Settings.busConflict_iff g n x
  have command : setBusRange a g s.bridge = if x.last.toNat < x.first.toNat then .refused .badArgument
      else if g.busConflict n x then .refused .overlap
      else doneUnchanged (g.modSlot n fun z => { z with busRange := BusRange.loaded z.busRange x }) s.bridge :=
    withSlot_of _ named
  refine ⟨fun order apart => State.process_of head ?_, fun order share => State.process_of head ?_,
    fun misordered => State.process_of head ?_⟩
  · rw [command, if_neg (Nat.not_lt.2 order), if_neg (mt conflict.1 apart)]
    rfl
  · rw [command, if_neg (Nat.not_lt.2 order), if_pos (conflict.2 share)]
  · rw [command, if_pos (Nat.lt_of_not_le misordered)]

/-- Settles O55: the checks of the two tables are the conditions named, in the order of R189. -/
theorem windowAndBusCommands : Obligations.WindowAndBusCommands := ⟨windowCommands, busRangeCommand⟩

end Sys2Proof.Machine
end

section
/-! PROOFS. The commands that load timings, policies, polarities, scripts and exclusions (O56, O57). -/

namespace Sys2Proof.Machine

open Sys2Proof Sys2Proof.Safety

/-! ### Timings and the part's policies (R192) -/

theorem SlotTiming.fits_iff (t : SlotTiming) :
    t.fits = true ↔ t.budgetCode ≤ 15 ∧ t.threshold ≤ 15 ∧ 1 ≤ t.resetHold ∧ t.resetHold ≤ 1000 ∧
      10 ≤ t.linkTimeout ∧ t.linkTimeout ≤ 1000 ∧ 10 ≤ t.powerGoodTimeout ∧ t.powerGoodTimeout ≤ 500 ∧
      100 ≤ t.offTime ∧ t.offTime ≤ 2000 := by
  simp [SlotTiming.fits, inRange_iff, and_assoc]

theorem slotTimingCommand : Parts.SlotTimingCommand := by
  intro s k a n head named t fits
  have check : SlotTiming.fits t = true ↔ fits := SlotTiming.fits_iff t
  have command : setSlotTiming a s.settings s.bridge = if SlotTiming.fits t then
      doneUnchanged (s.settings.modSlot n fun z => { z with timing := SlotTiming.clamped t }) s.bridge
    else .refused .badArgument := withSlot_of _ named
  refine ⟨fun fit => State.process_of head ?_, fun misfit => State.process_of head ?_⟩
  · rw [command, if_pos (check.2 fit)]
    rfl
  · rw [command, if_neg (mt check.1 misfit)]

theorem PartPolicy.fits_iff (p : PartPolicy) :
    p.fits = true ↔ (p.pieceSize = 64 ∨ p.pieceSize = 128 ∨ p.pieceSize = 256) ∧ 1 ≤ p.inrushCount ∧
      p.inrushCount ≤ 4 ∧ 50 ≤ p.inrushWindow ∧ p.inrushWindow ≤ 1000 ∧ 1 ≤ p.quietInterval ∧
      p.quietInterval ≤ 255 ∧ 1 ≤ p.stallLimit ∧ p.stallLimit ≤ 100 ∧ p.hostAnswerCode ≤ 15 ∧
      10 ≤ p.holdLimit ∧ p.holdLimit ≤ 1000 := by
  simp [PartPolicy.fits, inRange_iff, and_assoc, or_assoc]

theorem partPolicyCommand : Parts.PartPolicyCommand := by
  intro s k a head field p alert fits
  have check : (PartPolicy.fits p && AlertSettings.fits alert) = true ↔ fits := by
    rw [Bool.and_eq_true, PartPolicy.fits_iff]
    simp only [AlertSettings.fits, decide_eq_true_eq, and_assoc]
    rfl
  have command : setPartPolicy a s.settings s.bridge = if (PartPolicy.fits p && AlertSettings.fits alert) = true then
      doneUnchanged { s.settings with part := PartPolicy.clamped p, alert := alert } s.bridge
    else .refused .badArgument := rfl
  refine ⟨fun fit => State.process_of head ?_, fun misfit => State.process_of head ?_⟩
  · rw [command, if_pos (check.2 fit)]
    rfl
  · rw [command, if_neg (mt check.1 misfit)]

/-! ### The slots' policies (R29, R98, R100, R147, R192) -/

theorem SlotPolicy.fits_iff (p : SlotPolicy) :
    p.fits = true ↔ 1 ≤ p.maxAttempts ∧ p.maxAttempts ≤ 7 ∧ 1 ≤ p.escalation ∧ p.escalation ≤ 7 ∧
      p.quota ≤ 48 ∧ p.shadowLimit ≤ 384 := by
  simp [SlotPolicy.fits, inRange_iff, and_assoc]

/-- A request for slot `n` stands at the head of the Upstream Ingress Queue. -/
def Bridge.headWaitsFor (b : Bridge) (n : SlotId) : Bool :=
  match b.upIngress with
  | { txn := .request _, route := .slot m _ } :: _ => decide (m = n)
  | _ => false

theorem Bridge.keepHeadAnswer_eq (b : Bridge) (n : SlotId) (old : SlotPolicy) :
    b.keepHeadAnswer n old = { b with
      headAnswer := if b.headWaitsFor n = true then some (b.headAnswer.getD old.configAnswer)
        else b.headAnswer } := by
  unfold Bridge.keepHeadAnswer Bridge.hostHead Bridge.headWaitsFor
  rcases h : b.upIngress with _ | ⟨⟨txn, route⟩, rest⟩
  · simp [← h]
  · cases txn with
    | completion c => simp [← h]
    | request r =>
      cases route with
      | slot m answer =>
        by_cases e : m = n
        · simp [e]
        · simp [e, ← h]
      | _ => simp [← h]

theorem Bridge.accountsExceed_iff (b : Bridge) (g : Settings) (n : SlotId) (quota : Nat) :
    b.accountsExceed g n quota = true ↔ ¬ b.poolUse (g.withNew SlotPolicy.quota n quota)
      ≤ 256 - sumSlots (g.withNew SlotPolicy.quota n quota) := by
  rw [Nat.not_le]
  exact decide_eq_true_iff

theorem Bridge.limitsExceed_iff (b : Bridge) (g : Settings) (n : SlotId) (limit : Nat) :
    b.limitsExceed g n limit = true ↔ ¬ (sumSlots (g.withNew SlotPolicy.shadowLimit n limit) ≤ 384 ∧
      (b.slot n).shadow.length ≤ limit) := by
  simp only [Bridge.limitsExceed, Bool.or_eq_true, decide_eq_true_eq]
  omega

theorem slotPolicyCommand : Parts.SlotPolicyCommand := by
  intro s k a n head named g b word p fits quotas limits room waiting kept cut after answers
  have check : SlotPolicy.fits p = true ↔ fits := SlotPolicy.fits_iff p
  have exceed : (b.accountsExceed g n p.quota || b.limitsExceed g n p.shadowLimit) = true ↔ ¬ room := by
    rw [Bool.or_eq_true, Bridge.accountsExceed_iff, Bridge.limitsExceed_iff, ← not_and_or]
    rfl
  have keeps : b.keepHeadAnswer n (g.policy n) = kept := Bridge.keepHeadAnswer_eq b n (g.policy n)
  have applied : b.applyPolicy n (g.policy n) p = after := by
    unfold Bridge.applyPolicy
    rw [keeps]
  have command : setSlotPolicy a g b = if !(SlotPolicy.fits p) then .refused .badArgument
      else if b.accountsExceed g n p.quota || b.limitsExceed g n p.shadowLimit then .refused .noRoom
      else doneUnchanged (g.modSlot n fun z => { z with policy := p }) (b.applyPolicy n (g.policy n) p) :=
    withSlot_of _ named
  refine ⟨fun fit spare => State.process_of head ?_, fun fit full => State.process_of head ?_,
    fun misfit => State.process_of head ?_⟩
  · refine command.trans ?_
    rw [check.2 fit, if_neg (by decide), if_neg (fun h => exceed.1 h spare), applied]
    rfl
  · refine command.trans ?_
    rw [check.2 fit, if_neg (by decide), if_pos (exceed.2 full)]
  · refine command.trans (if_pos ?_)
    rw [Bool.not_eq_true', ← Bool.not_eq_true]
    exact mt check.1 misfit

/-- Settles O56: each check is the conjunction of the ranges named, and what new policies do at once is a change of
the head's answer and of the slot. -/
theorem timingAndPolicyCommands : Obligations.TimingAndPolicyCommands :=
  ⟨slotTimingCommand, slotPolicyCommand, partPolicyCommand⟩

/-! ### Polarities (R106, R107) -/

/-- The change start of an input that is looked at under these inversions. -/
def Slot.startOf (x : Slot) (v : Inversions) (now : Time) (line : InputLine) : Option Time :=
  if ((x.pins.get line) == activeHigh v line) = x.filtered.get line then none
  else some ((x.changeStart.get line).getD now)

/-- A slot after one of its inputs has been looked at. -/
def Slot.sensed (x : Slot) (v : Inversions) (now : Time) (line : InputLine) : Slot :=
  { x with changeStart := x.changeStart.set line (x.startOf v now line) }

theorem Bridge.sense_eq (b : Bridge) (g : Settings) (n : SlotId) (line : InputLine) :
    b.sense g n line = b.modSlot n fun x => x.sensed (g.slot n).inversions b.now line := by
  unfold Bridge.sense
  refine Bridge.modSlot_congr ?_
  unfold Slot.sensed Slot.startOf Bridge.unfiltered
  cases (b.slot n).changeStart.get line <;> rfl

/-- The three inputs looked at, each on its own. -/
theorem Bridge.senseSlot_eq (b : Bridge) (g : Settings) (n : SlotId) :
    b.senseSlot g n = b.modSlot n fun x => { x with changeStart :=
      { prsnt := x.startOf (g.slot n).inversions b.now .prsnt
        pwrgd := x.startOf (g.slot n).inversions b.now .pwrgd
        attn := x.startOf (g.slot n).inversions b.now .attn } } := by
  unfold Bridge.senseSlot
  rw [Bridge.sense_eq, Bridge.sense_eq, Bridge.sense_eq, Bridge.modSlot_modSlot, Bridge.modSlot_modSlot]
  rfl

theorem sidebandCommand : Parts.SidebandCommand := by
  intro s k a n head named v old start
  refine State.process_of head ((withSlot_of _ named).trans ?_)
  have loaded : ((s.settings.modSlot n fun z => { z with inversions := v }).slot n).inversions = v := by
    rw [Settings.slot_modSlot_self]
  have sensed := s.bridge.senseSlot_eq (s.settings.modSlot n fun z => { z with inversions := v }) n
  rw [loaded] at sensed
  exact congrArg (Answer.done _ · noResults) (sensed.trans (Bridge.modSlot_congr rfl))

/-! ### Scripts (R132, R134) -/

theorem offsetFits_iff (x : Nat) : offsetFits x = true ↔ x ≤ 4092 ∧ x % 4 = 0 := by
  simp [offsetFits]

/-- The step that the arguments of LOAD-SCRIPT-STEP name, for a kind of Table 6-3. -/
def carriedStep (a : Vector Word 8) : ScriptStep :=
  let function := (a.get 1).extractLsb' 8 3
  let offset := (a.get 2).extractLsb' 0 12
  match ((a.get 1).extractLsb' 4 4).toNat with
  | 0 => .readExpect function offset (a.get 3) (a.get 4) (if (a.get 1).getLsbD 12 then .notEqual else .equal)
  | 1 => .write function offset ((a.get 1).extractLsb' 16 4) (a.get 4)
  | 2 => .echo function offset (a.get 3) (a.get 4)
  | _ => .wait ((a.get 1).extractLsb' 24 8).toNat

theorem stepOf_eq (a : Vector Word 8) :
    stepOf a = if ((a.get 1).extractLsb' 4 4).toNat ≤ 3 then some (carriedStep a) else none := by
  unfold stepOf carriedStep bitField
  generalize ((a.get 1).extractLsb' 4 4).toNat = kind
  match kind with
  | 0 => rfl
  | 1 => rfl
  | 2 => rfl
  | 3 => rfl
  | kind + 4 => exact (if_neg (by omega)).symm

theorem durationFits_carriedStep (a : Vector Word 8) (h : ((a.get 1).extractLsb' 4 4).toNat ≤ 3) :
    (carriedStep a).durationFits = true ↔
      (((a.get 1).extractLsb' 4 4).toNat = 3 → ((a.get 1).extractLsb' 24 8).toNat ≠ 0) := by
  unfold carriedStep
  generalize ((a.get 1).extractLsb' 4 4).toNat = kind at h ⊢
  match kind with
  | 0 => simp [ScriptStep.durationFits]
  | 1 => simp [ScriptStep.durationFits]
  | 2 => simp [ScriptStep.durationFits]
  | 3 => simp [ScriptStep.durationFits]
  | kind + 4 => omega

/-- The arguments of LOAD-SCRIPT-STEP pass its checks (R134; log 32). -/
def stepFits (a : Vector Word 8) : Prop :=
  ((a.get 1).extractLsb' 0 4).toNat ≤ 11 ∧ ((a.get 1).extractLsb' 4 4).toNat ≤ 3 ∧
    ((a.get 1).extractLsb' 8 4).toNat ≤ 7 ∧ ((a.get 2).extractLsb' 0 16).toNat ≤ 4092 ∧
    ((a.get 2).extractLsb' 0 16).toNat % 4 = 0 ∧
    (((a.get 1).extractLsb' 4 4).toNat = 3 → ((a.get 1).extractLsb' 24 8).toNat ≠ 0)

section Scripts

variable {a : Vector Word 8} {g : Settings} {b : Bridge} {n : SlotId} (named : slotOf a = some n)

include named

theorem loadScriptStep_fits (h : stepFits a) :
    loadScriptStep a g b = .done (g.modSlot n fun z => { z with script :=
      { z.script with steps := z.script.steps.setIfInBounds ((a.get 1).extractLsb' 0 4).toNat (carriedStep a) } })
      b noResults := by
  obtain ⟨position, kind, function, offset, aligned, duration⟩ := h
  have checks : (inRange ((a.get 1).extractLsb' 0 4).toNat 0 11 && stepTargetFits a &&
      (carriedStep a).durationFits) = true := by
    rw [Bool.and_eq_true, Bool.and_eq_true, inRange_iff, stepTargetFits, Bool.and_eq_true, inRange_iff,
      offsetFits_iff, durationFits_carriedStep a kind]
    exact ⟨⟨⟨Nat.zero_le _, position⟩, ⟨Nat.zero_le _, function⟩, offset, aligned⟩, duration⟩
  rw [loadScriptStep, withSlot_of _ named, stepOf_eq, if_pos kind]
  exact if_pos checks

theorem loadScriptStep_misfits (h : ¬ stepFits a) : loadScriptStep a g b = .refused .badArgument := by
  rw [loadScriptStep, withSlot_of _ named, stepOf_eq]
  by_cases kind : ((a.get 1).extractLsb' 4 4).toNat ≤ 3
  · rw [if_pos kind]
    refine if_neg fun checks => h ?_
    rw [Bool.and_eq_true, Bool.and_eq_true, inRange_iff, stepTargetFits, Bool.and_eq_true, inRange_iff,
      offsetFits_iff, durationFits_carriedStep a kind] at checks
    obtain ⟨⟨⟨-, position⟩, ⟨-, function⟩, offset, aligned⟩, duration⟩ := checks
    exact ⟨position, kind, function, offset, aligned, duration⟩
  · rw [if_neg kind]

theorem setScript_eq :
    setScript a g b = if ((a.get 1).extractLsb' 0 8).toNat ≤ 12 ∧ ((a.get 1).extractLsb' 16 8).toNat ≠ 0 then
      .done (g.modSlot n fun z => { z with script :=
        { z.script with
          length := ((a.get 1).extractLsb' 0 8).toNat
          retryLimit := ((a.get 1).extractLsb' 8 8).toNat
          retryInterval := ((a.get 1).extractLsb' 16 8).toNat } }) b noResults
      else .refused .badArgument := by
  rw [setScript, withSlot_of _ named]
  simp only [Bool.and_eq_true, inRange_iff, Nat.zero_le, true_and, decide_eq_true_eq]
  rfl

end Scripts

/-! ### Exclusions (R153) -/

/-- The arguments of SET-EXCLUSION pass its checks. -/
def rangeFits (a : Vector Word 8) : Prop :=
  ((a.get 1).extractLsb' 0 4).toNat ≤ 3 ∧ ((a.get 2).extractLsb' 0 16).toNat ≤ 4092 ∧
    ((a.get 2).extractLsb' 0 16).toNat % 4 = 0 ∧ ((a.get 2).extractLsb' 16 16).toNat ≤ 4092 ∧
    ((a.get 2).extractLsb' 16 16).toNat % 4 = 0 ∧
    ((a.get 1).getLsbD 8 = true → ((a.get 2).extractLsb' 0 16).toNat ≤ ((a.get 2).extractLsb' 16 16).toNat)

theorem exclusionFits_iff (a : Vector Word 8) : exclusionFits a = true ↔ rangeFits a := by
  unfold exclusionFits rangeFits bitAt bitField
  simp only [Bool.and_eq_true, inRange_iff, offsetFits_iff, Nat.zero_le, true_and, Bool.or_eq_true,
    Bool.not_eq_true', decide_eq_true_eq, and_assoc, ← Bool.not_eq_true, ← imp_iff_not_or]

/-- A 12-bit offset is the low part of the 16-bit argument that carries it. -/
theorem ofNat_extract (w : Word) (lo : Nat) :
    BitVec.ofNat 12 (w.extractLsb' lo 16).toNat = w.extractLsb' lo 12 := by
  rw [ofNat_toNat_extract]
  refine BitVec.eq_of_getLsbD_eq fun k hk => ?_
  have inside : k < 16 := by omega
  simp [BitVec.getLsbD_extractLsb', inside]

/-- The valid range that the arguments of SET-EXCLUSION name. -/
def carriedRange (a : Vector Word 8) : Exclusion :=
  { first := BitVec.ofNat 12 ((a.get 2).extractLsb' 0 16).toNat
    last := BitVec.ofNat 12 ((a.get 2).extractLsb' 16 16).toNat
    valid := true }

theorem setExclusion_fits {a : Vector Word 8} {g : Settings} {b : Bridge} {n : SlotId} {i : Fin 4}
    (named : slotOf a = some n) (h : rangeFits a) (position : ((a.get 1).extractLsb' 0 4).toNat = i.val) :
    setExclusion a g b = .done
      (g.modSlot n fun z =>
        { z with exclusions := z.exclusions.set i (if (a.get 1).getLsbD 8 then carriedRange a
            else { z.exclusions.get i with valid := false }) }) b noResults := by
  have place : Fin.ofNat 4 (bitField (a.get 1) 0 4) = i := Fin.ext (by
    rw [Fin.val_ofNat, show bitField (a.get 1) 0 4 = i.val from position, Nat.mod_eq_of_lt i.isLt])
  have range : ∀ old : Exclusion, Exclusion.loaded old (exclusionOf a)
      = if (a.get 1).getLsbD 8 then carriedRange a else { old with valid := false } := fun old => by
    unfold carriedRange
    rw [ofNat_extract, ofNat_extract]
    unfold Exclusion.loaded exclusionOf bitAt
    cases (a.get 1).getLsbD 8 <;> rfl
  rw [setExclusion, withSlot_of _ named, if_pos ((exclusionFits_iff a).2 h)]
  simp only [place, range]
  rfl

theorem setExclusion_misfits {a : Vector Word 8} {g : Settings} {b : Bridge} {n : SlotId}
    (named : slotOf a = some n) (h : ¬ rangeFits a) : setExclusion a g b = .refused .badArgument := by
  rw [setExclusion, withSlot_of _ named]
  exact if_neg (mt (exclusionFits_iff a).1 h)

theorem scriptAndExclusionCommands : Parts.ScriptAndExclusionCommands := by
  intro s k a n named g w position kind offset offset2 fits step length interval range answers
  have is_step : carriedStep a = step := rfl
  refine ⟨fun head fit => State.process_of head ?_, fun head misfit => State.process_of head ?_,
    fun head fit => State.process_of head ?_, fun head misfit => State.process_of head ?_,
    fun i head fit at_i => State.process_of head ?_, fun head misfit => State.process_of head ?_⟩
  · rw [← is_step]
    exact loadScriptStep_fits named fit
  · exact loadScriptStep_misfits named misfit
  · exact (setScript_eq named).trans (if_pos fit)
  · exact (setScript_eq named).trans (if_neg misfit)
  · exact setExclusion_fits named fit at_i
  · exact setExclusion_misfits named misfit

/-- Settles O57: each input is looked at on its own, and each check is the conjunction of its ranges. -/
theorem sidebandAndScriptCommands : Obligations.SidebandAndScriptCommands :=
  ⟨sidebandCommand, scriptAndExclusionCommands⟩

end Sys2Proof.Machine
end

section
/-! PROOFS. The commands that move a slot: POWER-ON, POWER-OFF, FENCE and RECOVER (O58). -/

namespace Sys2Proof.Machine

open Sys2Proof Sys2Proof.Safety

section Commands

variable {a : Vector Word 8} {g : Settings} {b : Bridge} {n : SlotId} (named : slotOf a = some n)

include named

theorem powerOn_of_off (h : (b.slot n).stage = .off) :
    powerOn a g b = doneBridge g (b.powerOnSlot g n (bitAt (a.get 1) 0)) := by
  rw [powerOn, withSlot_of _ named, h]

theorem powerOn_elsewhere (h : (b.slot n).stage ≠ .off) : powerOn a g b = .refused .wrongState := by
  rw [powerOn, withSlot_of _ named]
  split
  · rename_i e
    exact absurd e h
  · rfl

theorem powerOff_elsewhere (h : (b.slot n).stage = .empty ∨ (b.slot n).stage = .off) :
    powerOff a g b = .refused .wrongState := by
  rw [powerOff, withSlot_of _ named]
  rcases h with h | h <;> rw [h]

theorem powerOff_of_powered (empty : (b.slot n).stage ≠ .empty) (off : (b.slot n).stage ≠ .off) :
    powerOff a g b = doneBridge g (b.powerOffSlot g n) := by
  rw [powerOff, withSlot_of _ named]
  split
  · rename_i e
    exact absurd e empty
  · rename_i e
    exact absurd e off
  · rfl

theorem fence_of_admitted (h : (b.slot n).stage = .admitted) :
    fence a g b = doneBridge g (b.takeTrigger g n .commanded) := by
  rw [fence, withSlot_of _ named, h]

theorem fence_elsewhere (h : (b.slot n).stage ≠ .admitted) : fence a g b = .refused .wrongState := by
  rw [fence, withSlot_of _ named]
  split
  · rename_i e
    exact absurd e h
  · rfl

theorem recover_of_fenced (h : (b.slot n).stage = .fenced) :
    recover a g b = doneBridge g (b.startRecovery g n) := by
  rw [recover, withSlot_of _ named, h]

theorem recover_of_parked (h : (b.slot n).stage = .parked) :
    recover a g b = doneBridge g (b.recoverParked g n) := by
  rw [recover, withSlot_of _ named, h]

theorem recover_elsewhere (fenced : (b.slot n).stage ≠ .fenced) (parked : (b.slot n).stage ≠ .parked) :
    recover a g b = .refused .wrongState := by
  rw [recover, withSlot_of _ named]
  split
  · rename_i e
    exact absurd e fenced
  · rename_i e
    exact absurd e parked
  · rfl

end Commands

/-- RECOVER in PARKED makes one change of the slot before it enters RESETTING. -/
theorem Bridge.recoverParked_eq (b : Bridge) (g : Settings) (n : SlotId) :
    b.recoverParked g n = (b.modSlot n fun x => { x with attempts := 0, restore := true }).enterResetting g n := by
  rw [Bridge.recoverParked, Bridge.startRecovery, Bridge.modSlot_modSlot]

theorem slotCommandsByState : Parts.SlotCommandsByState := by
  intro s k a n named g stage done wrong
  refine ⟨fun head h => State.process_of head (powerOn_of_off named h),
    fun head h => State.process_of head (powerOn_elsewhere named h),
    fun head empty off => State.process_of head (powerOff_of_powered named empty off),
    fun head h => State.process_of head (powerOff_elsewhere named h),
    fun head h => State.process_of head (fence_of_admitted named h),
    fun head h => State.process_of head (fence_elsewhere named h),
    fun head h => State.process_of head (recover_of_fenced named h), fun head h => ?_,
    fun head fenced parked => State.process_of head (recover_elsewhere named fenced parked)⟩
  refine State.process_of head ((recover_of_parked named h).trans ?_)
  rw [Bridge.recoverParked_eq]
  rfl

/-! ### The states that the commands lead to (R85, R88) -/

theorem EntryChanges.powerQueue {b c : Bridge} (h : EntryChanges b c) : c.powerQueue = b.powerQueue := by
  obtain ⟨_, _, _, _, _, _, _, _, _, rfl⟩ := h
  rfl

theorem EntryChanges.enterUnpowered (b : Bridge) (g : Settings) (n : SlotId) (stage : Stage) :
    EntryChanges b (b.enterUnpowered g n stage) :=
  (((EntryChanges.pwrenOff b n).trans (.setStage _ n stage)).trans (.srstEntry _ g n)).trans (.modSlot _ n _)

theorem Bridge.slot_enterPowering (b : Bridge) (g : Settings) (n : SlotId) :
    ∃ ind, (b.enterPowering g n).slot n
      = { (b.slot n).portsEmptied with stage := .powering .queued, ind := ind } := by
  obtain ⟨ind, e⟩ := Bridge.slot_setStage (b.srstEntry g n) n (.powering .queued)
  refine ⟨ind, ?_⟩
  rw [Bridge.slot_srstEntry] at e
  exact e

theorem powerOnAndOffStates : Parts.PowerOnAndOffStates := by
  intro b g n
  refine ⟨?_, ?_⟩
  · intro c
    obtain ⟨ind, slot⟩ := b.slot_enterPowering g n
    have queue : c.powerQueue = b.powerQueue ++ [n] :=
      congrArg (· ++ [n]) ((EntryChanges.srstEntry b g n).trans (.setStage _ n (.powering .queued))).powerQueue
    rw [show c.slot n = _ from slot]
    exact ⟨rfl, queue, rfl, rfl⟩
  · intro c
    obtain ⟨ind, slot⟩ := (b.leave g n).slot_enterUnpowered g n .off
    have same := EntryChanges.enterUnpowered (b.leave g n) g n .off
    rw [show c.slot n = _ from slot]
    refine ⟨rfl, rfl, rfl, rfl, rfl, rfl, rfl, fun p h => ?_, fun h => ?_⟩
    · rw [show c.powerQueue = _ from same.powerQueue, Bridge.leave_powering h]
      simp [Bridge.leavePowerQueue]
    · rw [show c.qualQueue = _ from same.qualQueue, (Bridge.leave_qualifying_queue h).1]
      simp

/-- Settles O58: each command's case of the slot's state, and what the two entries make of the slot and the queues. -/
theorem slotStateCommands : Obligations.SlotStateCommands := ⟨slotCommandsByState, powerOnAndOffStates⟩

end Sys2Proof.Machine
end

section
/-! PROOFS. The codes and the words that READ-SLOT returns: pages 0 to 4 (part of O59). -/

namespace Sys2Proof.Machine

open Sys2Proof Sys2Proof.Safety

/-! ### Codes (R194) -/

theorem readBackCodes : Parts.ReadBackCodes := by
  refine ⟨rfl, rfl, rfl, rfl, rfl, fun _ => ⟨rfl, rfl, rfl⟩, fun _ => rfl, fun stage => ?_⟩
  cases stage <;> rfl

/-! ### Page 0 -/

theorem readSlotPageZero : Parts.ReadSlotPageZero := by
  intro s
  refine ⟨_, _, _, _, _, _, rfl, ?_⟩
  simp only [hasField, counterPair]
  simp
  refine ⟨congrArg _ ?_, congrArg _ ?_, congrArg _ ?_⟩
  · cases s.stage with
    | resetting p start => cases p <;> rfl
    | _ => rfl
  · cases s.fault.fenceReason <;> rfl
  · cases s.fault.parkReason <;> rfl

/-! ### Page 1 -/

theorem readSlotPageOne : Parts.ReadSlotPageOne := by
  intro b g n
  refine ⟨_, _, _, _, _, _, rfl, ?_⟩
  intro p t
  simp [hasField, SlotPolicy.word, p, t]

/-! ### Page 2 -/

theorem queuePosition_of_not_mem {n : SlotId} {q : List SlotId} (h : n ∉ q) : queuePosition n q = 0 := by
  have absent : (q.findIdx? fun m => decide (m = n)) = none :=
    List.findIdx?_eq_none_iff.2 fun m hm => decide_eq_false fun e => h (e ▸ hm)
  rw [queuePosition, absent]
  rfl

theorem queuePosition_append_cons {n : SlotId} {pre post : List SlotId} (h : n ∉ pre) :
    queuePosition n (pre ++ n :: post) = pre.length + 1 := by
  have before : (pre.findIdx? fun m => decide (m = n)) = none :=
    List.findIdx?_eq_none_iff.2 fun m hm => decide_eq_false fun e => h (e ▸ hm)
  have place : ((pre ++ n :: post).findIdx? fun m => decide (m = n)) = some pre.length := by
    rw [List.findIdx?_append, before, List.findIdx?_cons]
    simp
  rw [queuePosition, place]
  rfl

/-- A field that holds the queue position says where the slot stands. -/
theorem place_of_field {n : SlotId} {w : Word} {lo : Nat} {q : List SlotId}
    (h : hasField w lo 3 (queuePosition n q)) :
    (n ∉ q → hasField w lo 3 0) ∧
      ∀ pre post, q = pre ++ n :: post → n ∉ pre → hasField w lo 3 (pre.length + 1) := by
  refine ⟨fun absent => ?_, fun pre post e first => ?_⟩
  · rwa [queuePosition_of_not_mem absent] at h
  · rwa [e, queuePosition_append_cons first] at h

theorem engineWord_serving {b : Bridge} {n : SlotId} {r : Run} (hr : b.run = some r) (hs : r.slot = n) :
    b.engineWord n = packWord
      [(1, 0, 1), (r.index, 4, 4), (boolNat (r.half = some .read), 8, 1), (r.activity.code, 12, 3),
        (r.retryCount, 16, 8)] := by
  rw [Bridge.engineWord, hr]
  exact if_pos hs

theorem engineWord_elsewhere {b : Bridge} {n : SlotId} (h : ∀ r, b.run = some r → r.slot ≠ n) :
    b.engineWord n = 0 := by
  unfold Bridge.engineWord
  split
  · rename_i r hr
    exact if_neg (h r hr)
  · rfl

/-- The fields of the line word. -/
theorem lineWord_fields (b : Bridge) (g : Settings) (n : SlotId) :
    let w9 := b.lineWord g n
    let s := b.slot n
    let v := (g.slot n).inversions
    (w9.getLsbD 0 = s.filtered.prsnt ∧ w9.getLsbD 1 = s.filtered.pwrgd ∧
      w9.getLsbD 2 = s.filtered.attn ∧ w9.getLsbD 3 = s.pwren ∧ w9.getLsbD 4 = s.stage.srst ∧
      w9.getLsbD 5 = s.ind.lit ∧ hasField w9 6 2 0) ∧
    (w9.getLsbD 8 = v.prsnt ∧ w9.getLsbD 9 = v.pwrgd ∧ w9.getLsbD 10 = v.attn ∧
      w9.getLsbD 11 = v.pwren ∧ w9.getLsbD 12 = v.srst ∧ w9.getLsbD 13 = v.ind ∧ hasField w9 14 2 0) ∧
    hasField w9 16 2 (codeOr PowerSeq.code s.stage.powerSeq) ∧ hasField w9 18 2 0 ∧
      hasField w9 20 3 (queuePosition n b.powerQueue) ∧ w9.getLsbD 23 = false ∧
      hasField w9 24 3 (queuePosition n b.qualQueue) ∧ hasField w9 27 5 0 := by
  simp [hasField, Bridge.lineWord, Bridge.outputLevel]

theorem readSlotPageTwo : Parts.ReadSlotPageTwo := by
  intro b g n
  refine ⟨_, _, _, _, _, _, _, rfl, ?_⟩
  intro s v x place
  obtain ⟨⟨l0, l1, l2, l3, l4, l5, l6⟩, ⟨l8, l9, l10, l11, l12, l13, l14⟩, phase, l18, power, l23, qual,
    l27⟩ := lineWord_fields b g n
  have is_phase : codeOr PowerSeq.code s.stage.powerSeq = match s.stage with
      | .powering .queued => 1
      | .powering (.awaitPwrgd _) => 2
      | .powering (.hold _ _) => 3
      | _ => 0 := by
    cases s.stage with
    | powering p => cases p <;> rfl
    | _ => rfl
  refine ⟨l0, l1, l2, l3, l4, l5, l6, l8, l9, l10, l11, l12, l13, l14,
    Eq.trans phase (congrArg (BitVec.ofNat 2) is_phase), l18, place_of_field power, l23, place_of_field qual, l27,
    ?_, ?_, fun r hr hs => ?_, engineWord_elsewhere,
    fun h => ?_, fun h => ?_, fun step cause observed h => ?_, ?_⟩
  · show wordOr PowerSeq.grantTime s.stage.powerSeq = _
    cases s.stage with
    | powering p => cases p <;> rfl
    | _ => rfl
  · show wordOr PowerSeq.powerGoodTime s.stage.powerSeq = _
    cases s.stage with
    | powering p => cases p <;> rfl
    | _ => rfl
  · rw [engineWord_serving hr hs]
    simp [hasField]
  · rw [show (b.slot n).qualResult = none from h]
    exact ⟨rfl, rfl⟩
  · rw [show (b.slot n).qualResult = some .pass from h]
    exact ⟨rfl, rfl⟩
  · rw [show (b.slot n).qualResult = some (.fail step cause observed) from h]
    simp [hasField, wordOr, QualResult.word, QualResult.observed]
  · simp [hasField, Script.word, x]

/-! ### Pages 3 and 4 -/

theorem Slot.replayWord_restoring {s : Slot} {r : Replay} (h : s.stage = .restoring r) :
    s.replayWord = packWord
      [(boolNat s.incomplete, 0, 1), (1, 1, 1), (r.activity.code, 2, 2), (r.retryCount, 8, 8),
        (r.cursor, 16, 9)] := by
  rw [Slot.replayWord, (Stage.replay_iff _ r).2 h]

theorem Slot.replayWord_elsewhere {s : Slot} (h : ∀ r, s.stage ≠ .restoring r) :
    s.replayWord = packWord [(boolNat s.incomplete, 0, 1)] := by
  have none_active : s.stage.replay = none :=
    Option.eq_none_iff_forall_ne_some.2 fun r hr => h r (Stage.replay_eq_some hr)
  rw [Slot.replayWord, none_active]

theorem readSlotPagesThreeAndFour : Parts.ReadSlotPagesThreeAndFour := by
  refine ⟨fun b g n => ?_, fun g => ?_⟩
  · refine ⟨_, _, _, (g.slot n).exclusions.toList.map Exclusion.word, rfl, by simp, ?_⟩
    intro s
    refine ⟨?_, fun r hs => ?_, fun h => ?_, fun h => ?_, fun sent h => ?_, fun cause key sent h => ?_,
      fun k => ⟨((g.slot n).exclusions.get k).word, ?_, ?_⟩⟩
    · show s.replayWord.getLsbD 0 = _
      unfold Slot.replayWord
      split <;> simp
    · rw [Slot.replayWord_restoring hs]
      simp [hasField]
    · rw [Slot.replayWord_elsewhere h]
      simp [hasField]
    · rw [show (b.slot n).replayResult = none from h]
      exact ⟨rfl, rfl⟩
    · rw [show (b.slot n).replayResult = some (.done sent) from h]
      refine ⟨rfl, ?_⟩
      simp [hasField, wordOr, ReplayResult.sentWord]
    · rw [show (b.slot n).replayResult = some (.failed cause key sent) from h]
      cases key with
      | none => simp [hasField, wordOr, ReplayResult.word, ReplayResult.sentWord]
      | some key => simp [hasField, wordOr, ReplayResult.word, ReplayResult.sentWord]
    · simp [Vector.get_eq_getElem]
    · simp [hasField, Exclusion.word]
  · refine ⟨_, _, _, rfl, ?_⟩
    intro p
    simp [hasField, p]

end Sys2Proof.Machine
end

section
/-! PROOFS. READ-SLOT, READ-ENTRY and READ-SHADOW: the commands, and the words of an entry and of a record (O59). -/

namespace Sys2Proof.Machine

open Sys2Proof Sys2Proof.Safety

/-! ### READ-SLOT (R194) -/

theorem Bridge.page_above (b : Bridge) (g : Settings) (n : SlotId) {page : Nat} (h : 4 < page) :
    b.page g n page = none := by
  match page with
  | 0 | 1 | 2 | 3 | 4 => omega
  | page + 5 => rfl

section Commands

variable {a : Vector Word 8} {g : Settings} {b : Bridge} {n : SlotId} (named : slotOf a = some n)

include named

theorem readSlot_of {page : Nat} {ws : List Word} (at_page : page = ((a.get 1).extractLsb' 0 4).toNat)
    (h : b.page g n page = some ws) : readSlot a g b = .done g b (resultsOf ws) := by
  rw [readSlot, withSlot_of _ named, bitField, ← at_page, h]

theorem readSlot_above {page : Nat} (at_page : page = ((a.get 1).extractLsb' 0 4).toNat) (h : 4 < page) :
    readSlot a g b = .refused .badArgument := by
  rw [readSlot, withSlot_of _ named, bitField, ← at_page, b.page_above g n h]

/-! ### READ-ENTRY and READ-SHADOW (R163, R195) -/

theorem readShadow_inside (h : ((a.get 1).extractLsb' 0 16).toNat ≤ 383) :
    readShadow a g b = readShadowAt g b n ((a.get 1).extractLsb' 0 16).toNat :=
  (withSlot_of _ named).trans (if_pos h)

theorem readShadow_outside (h : 383 < ((a.get 1).extractLsb' 0 16).toNat) :
    readShadow a g b = .refused .badArgument :=
  (withSlot_of _ named).trans (if_neg (Nat.not_le.2 h))

end Commands

theorem readSlotCommand : Parts.ReadSlotCommand := by
  intro s k a n page head named at_page g b answers
  have answered {ws : List Word} (h : b.page g n page = some ws) : answers ws :=
    State.process_of head (readSlot_of named at_page h)
  refine ⟨fun e => answered ?_, fun e => answered ?_, fun e => answered ?_, fun e => answered ?_,
    fun e => answered ?_, fun h => State.process_of head (readSlot_above named at_page h)⟩
  all_goals rw [e]; rfl

theorem readShadowAt_readable {g : Settings} {b : Bridge} {n : SlotId} {position : Nat} {key : ShadowKey}
    (held : (b.slot n).shadow[position]? = some key)
    {c : Bridge} {union : BitVec 4} {value : Word}
    (read : b.readShadow g n position key .readShadow = (c, some (union, value))) :
    readShadowAt g b n position = .done g c (resultsOf ((c.slot n).shadowWords key union value)) := by
  rw [readShadowAt, held]
  dsimp only
  rw [read]

theorem readShadowAt_bad {g : Settings} {b : Bridge} {n : SlotId} {position : Nat} {key : ShadowKey}
    (held : (b.slot n).shadow[position]? = some key)
    {c : Bridge} (read : b.readShadow g n position key .readShadow = (c, none)) :
    readShadowAt g b n position
      = .done g ((c.replayRecheck g n).settle g) (resultsOf [(c.slot n).shadowWord]) := by
  rw [readShadowAt, held]
  dsimp only
  rw [read]

theorem readShadowAt_past {g : Settings} {b : Bridge} {n : SlotId} {position : Nat}
    (past : (b.slot n).shadow.length ≤ position) :
    readShadowAt g b n position = .done g b (resultsOf [(b.slot n).shadowWord]) := by
  rw [readShadowAt, List.getElem?_eq_none past]

theorem readEntry_index {a : Vector Word 8} {g : Settings} {b : Bridge} {i : BridgeTag}
    (h : ((a.get 1).extractLsb' 0 16).toNat = i.val) :
    readEntry a g b = .done g ((b.readEntry g i .readEntry).1.settle g)
      (resultsOf ((b.readEntry g i .readEntry).1.status i).words) := by
  have inside : bitField (a.get 1) 0 16 < 256 := h.trans_lt i.isLt
  have same : (⟨bitField (a.get 1) 0 16, inside⟩ : BridgeTag) = i := Fin.ext h
  unfold readEntry
  dsimp only
  rw [dif_pos inside, same]

theorem readStorageCommands : Parts.ReadStorageCommands := by
  intro s k a g x done
  refine ⟨fun i head hi => ?_, fun head h => ?_, fun n key head named inside held => ?_,
    fun n head named inside past => ?_, fun n head named h => ?_⟩
  · exact State.process_of head (readEntry_index hi)
  · exact State.process_of head (dif_neg (Nat.not_lt.2 h))
  · intro w
    refine ⟨fun clean => ?_, fun one => ?_, fun bad => ?_⟩
    · have read := Bridge.readShadow_clean (g := g) (n := n) (position := x) (event := .readShadow) clean
      have answer := (readShadow_inside named inside).trans (readShadowAt_readable held read)
      exact State.process_of head answer
    · intro c
      have read := Bridge.readShadow_readable (g := g) (n := n) (position := x) (event := .readShadow)
        (Nat.le_of_eq one)
      rw [if_neg fun clean => absurd (one.symm.trans clean) (by decide)] at read
      have answer := (readShadow_inside named inside).trans (readShadowAt_readable held read)
      exact State.process_of head answer
    · have read := Bridge.readShadow_bad (g := g) (n := n) (position := x) (event := .readShadow) bad
      have answer := (readShadow_inside named inside).trans (readShadowAt_bad held read)
      exact State.process_of head answer
  · exact State.process_of head ((readShadow_inside named inside).trans (readShadowAt_past past))
  · exact State.process_of head (readShadow_outside named h)

/-! ### The words of an entry (Table 10-6) -/

theorem fieldWord_zero (lo width : Nat) : fieldWord 0 lo width = 0 := by
  simp [fieldWord]

/-- Word 11 of an entry: the low word of the address, or the configuration target. -/
def targetWord : Asked → Word
  | .memRead addr _ _ => addr.extractLsb' 0 32
  | .cfgRead t _ => CfgTarget.word t
  | .cfgWrite t _ => CfgTarget.word t

/-- Word 12 of an entry: the high word of the address, or the byte enables. -/
def enableWord : Asked → Word
  | .memRead addr _ _ => addr.extractLsb' 32 32
  | .cfgRead _ be => packWord [(be.toNat, 0, 4)]
  | .cfgWrite _ be => packWord [(be.toNat, 0, 4)]

theorem targetWords_eq (x : Asked) : x.targetWords = [targetWord x, enableWord x] := by
  cases x <;> rfl

theorem words_inUse (account : SlotId) (r : EntryRecord) :
    EntryStatus.words (.inUse account r) = [r.stateWord account, r.origin.requesterWord, targetWord r.asked,
      enableWord r.asked, r.extentWord, r.phase.time, r.allocatedAt] := by
  show r.words account = _
  rw [EntryRecord.words, targetWords_eq]
  rfl

/-- The fields of word 9 that no case changes. -/
theorem stateWord_fields (account : SlotId) (r : EntryRecord) :
    let w := r.stateWord account
    (hasField w 3 1 0 ∧ hasField w 6 2 0 ∧ w.getLsbD 11 = false ∧ w.getLsbD 15 = false ∧
      hasField w 16 2 account.val ∧ w.getLsbD 18 = r.answer.isSome ∧
      w.getLsbD 19 = decide (r.answer = some .error) ∧ hasField w 22 10 0) ∧
    hasField w 0 3 r.phase.code ∧ hasField w 4 2 r.asked.code ∧ hasField w 8 3 r.origin.code ∧
      hasField w 12 3 (Side.code r.target) ∧ w.getLsbD 20 = r.phase.hasLeft ∧
      w.getLsbD 21 = r.phase.releasePending := by
  simp [hasField, EntryRecord.stateWord]

/-- An entry that does not stand in shows neither of the two flags of a stand-in. -/
theorem stateWord_flags {account : SlotId} {r : EntryRecord} (left : r.phase.hasLeft = false)
    (pending : r.phase.releasePending = false) : hasField (r.stateWord account) 20 2 0 := by
  simp [hasField, EntryRecord.stateWord, left, pending, boolNat, fieldWord_zero]

/-- The 16 bits of a requester ID are its bus, device and function. -/
theorem requester_bits (q : ReqId) : BitVec.ofNat 16 (ReqId.bits q) = q.bus ++ q.device ++ q.function := by
  refine BitVec.eq_of_toNat_eq ?_
  have bus := q.bus.isLt
  have device := q.device.isLt
  have function := q.function.isLt
  rw [BitVec.toNat_append, BitVec.toNat_append, ← Nat.shiftLeft_add_eq_or_of_lt device,
    ← Nat.shiftLeft_add_eq_or_of_lt function, BitVec.toNat_ofNat, ReqId.bits]
  simp only [Nat.shiftLeft_eq]
  omega

theorem requesterWord_fields {o : Origin} {q : Requester} (h : o.requester = some q) :
    o.requesterWord.extractLsb' 0 16 = q.id.bus ++ q.id.device ++ q.id.function ∧
      o.requesterWord.extractLsb' 16 16 = q.tag := by
  rw [Origin.requesterWord, h]
  refine ⟨?_, ?_⟩
  · rw [← requester_bits]
    simp
  · simp

/-- The words of a configuration request. -/
theorem config_words {x : Asked} {t : CfgTarget} {be : BitVec 4} (h : x = .cfgRead t be ∨ x = .cfgWrite t be) :
    targetWord x = CfgTarget.word t ∧ enableWord x = packWord [(be.toNat, 0, 4)] ∧ x.extent = (4, 0) := by
  rcases h with h | h <;> rw [h] <;> exact ⟨rfl, rfl, rfl⟩

theorem targetWord_fields (t : CfgTarget) :
    (CfgTarget.word t).extractLsb' 0 8 = t.bus ∧ (CfgTarget.word t).extractLsb' 8 5 = t.device ∧
      hasField (CfgTarget.word t) 13 3 0 ∧ (CfgTarget.word t).extractLsb' 16 3 = t.function ∧
      (CfgTarget.word t).getLsbD 19 = false ∧ (CfgTarget.word t).extractLsb' 20 12 = t.offset := by
  simp [hasField, CfgTarget.word]

theorem extentWord_length (r : EntryRecord) :
    hasField r.extentWord 0 13 r.asked.extent.1 ∧ hasField r.extentWord 13 3 0 := by
  unfold EntryRecord.extentWord
  split <;> simp [hasField]

/-- Of a requester's entry word 13 holds the bytes delivered. -/
theorem extentWord_delivered {r : EntryRecord} (h : ∀ p, r.origin ≠ .bridge p) :
    hasField r.extentWord 16 13 r.asked.extent.2 ∧ hasField r.extentWord 29 3 0 := by
  unfold EntryRecord.extentWord
  split
  · rename_i k e
    exact absurd e (h _)
  · rename_i k e
    exact absurd e (h _)
  · simp [hasField]
  · simp [hasField]

theorem readEntryWords : Parts.ReadEntryWords := by
  refine ⟨rfl, fun account => ⟨_, rfl, ?_⟩, fun account r => ⟨_, _, _, _, _, _, words_inUse account r, ?_⟩⟩
  · simp [hasField]
  · obtain ⟨⟨s3, s6, s11, s15, s16, s18, s19, s22⟩, phase, asked, origin, target, left, pending⟩ :=
      stateWord_fields account r
    obtain ⟨length, gap⟩ := extentWord_length r
    refine ⟨s3, s6, s11, s15, s16, s18, s19, s22, fun d h => ?_, fun hold listed waits h => ?_,
      fun hold h => ?_, fun q h => requesterWord_fields h, fun q h => ?_, fun m q h => ?_, fun p h => ?_,
      fun h => ?_, fun m h => ?_, fun addr len delivered h => ?_, fun t be h => ?_, fun t be h => ?_,
      fun t be h => ?_, gap, fun h => (extentWord_delivered h).2, fun k h => ?_, fun k h => ?_⟩
    · rw [h] at phase
      exact ⟨phase, stateWord_flags (by rw [h]; rfl) (by rw [h]; rfl), by rw [h]; rfl⟩
    · rw [h] at phase left pending
      exact ⟨phase, left, pending, by rw [h]; rfl⟩
    · rw [h] at phase
      exact ⟨phase, stateWord_flags (by rw [h]; rfl) (by rw [h]; rfl), by rw [h]; rfl⟩
    · rwa [h] at origin
    · rwa [h] at origin
    · rw [h] at origin
      exact ⟨origin, by rw [h]; rfl⟩
    · rwa [h] at target
    · rwa [h] at target
    · rw [h] at asked length
      refine ⟨asked, by rw [h]; rfl, by rw [h]; rfl, length, fun own => ?_⟩
      have bytes := (extentWord_delivered own).1
      rwa [h] at bytes
    · rwa [h] at asked
    · rwa [h] at asked
    · obtain ⟨first, second, extent⟩ := config_words h
      obtain ⟨bus, device, t13, function, t19, offset⟩ := targetWord_fields t
      rw [first, second]
      rw [extent] at length
      refine ⟨bus, device, t13, function, t19, offset, by simp, by simp [hasField], length, fun own => ?_⟩
      have bytes := (extentWord_delivered own).1
      rwa [extent] at bytes
    · rw [EntryRecord.extentWord, h]
      simp [hasField]
    · rw [EntryRecord.extentWord, h]
      simp [hasField]

theorem readShadowWords : Parts.ReadShadowWords := by
  refine fun s x union value => ⟨⟨_, _, rfl, ?_⟩, ?_⟩
  · simp [hasField]
  · simp [hasField, Slot.shadowWord]

/-- Settles O59: a read returns its list of packed words, and each field of a packed word reads back alone. -/
theorem readCommands : Obligations.ReadCommands :=
  ⟨readSlotCommand, readBackCodes, readSlotPageZero, readSlotPageOne, readSlotPageTwo,
    readSlotPagesThreeAndFour, readStorageCommands, readEntryWords, readShadowWords⟩

end Sys2Proof.Machine
end

section
/-! PROOFS. The commands that delete, clear and reclaim, and the words of the error log (O60). -/

namespace Sys2Proof.Machine

open Sys2Proof Sys2Proof.Safety

/-! ### The shadow's commands (R160, R162) -/

/-- A field whose value fits in fewer bits is told by those bits. -/
theorem toNat_eq_field_iff (w : Word) {narrow wide : Nat} (h : narrow ≤ wide)
    (fits : (w.extractLsb' 0 wide).toNat < 2 ^ narrow) (x : BitVec narrow) :
    x.toNat = (w.extractLsb' 0 wide).toNat ↔ x = w.extractLsb' 0 narrow := by
  have same : (w.extractLsb' 0 narrow).toNat = (w.extractLsb' 0 wide).toNat := by
    have dvd : 2 ^ narrow ∣ 2 ^ wide := Nat.pow_dvd_pow 2 h
    have cut := Nat.mod_mod_of_dvd w.toNat dvd
    have whole := Nat.mod_eq_of_lt fits
    simp only [BitVec.extractLsb'_toNat, Nat.shiftRight_zero] at whole ⊢
    rw [← whole, cut]
  rw [← same]
  exact ⟨BitVec.eq_of_toNat_eq, fun e => congrArg _ e⟩

/-- The function and offset arguments name a key that a record can have. -/
def keyFits (a : Vector Word 8) : Prop :=
  ((a.get 1).extractLsb' 0 4).toNat ≤ 7 ∧ ((a.get 2).extractLsb' 0 16).toNat ≤ 4092 ∧
    ((a.get 2).extractLsb' 0 16).toNat % 4 = 0

theorem keyFits_iff (a : Vector Word 8) :
    (inRange (bitField (a.get 1) 0 4) 0 7 && offsetFits (bitField (a.get 2) 0 16)) = true ↔ keyFits a := by
  rw [Bool.and_eq_true, inRange_iff, offsetFits_iff]
  simp only [Nat.zero_le, true_and]
  rfl

/-- The key that the arguments name, under the checks. -/
theorem key_iff {a : Vector Word 8} (h : keyFits a) (x : ShadowKey) :
    (x.function.toNat = ((a.get 1).extractLsb' 0 4).toNat ∧ x.offset.toNat = ((a.get 2).extractLsb' 0 16).toNat) ↔
      x.function = (a.get 1).extractLsb' 0 3 ∧ x.offset = (a.get 2).extractLsb' 0 12 := by
  obtain ⟨function, offset, -⟩ := h
  rw [toNat_eq_field_iff (a.get 1) (by decide) (by omega), toNat_eq_field_iff (a.get 2) (by decide) (by omega)]

section Deletes

variable {a : Vector Word 8} {g : Settings} {b : Bridge} {n : SlotId} (named : slotOf a = some n)

theorem Bridge.deleteKey_absent {f : BitVec 3} {o : BitVec 12}
    (h : ∀ x ∈ (b.slot n).shadow, ¬ (x.function = f ∧ x.offset = o)) : b.deleteKey g n f o = b := by
  rw [Bridge.deleteKey, keyPosition_eq_none h]

theorem Bridge.deleteKey_held {pre post : List ShadowKey} {x : ShadowKey}
    (list : (b.slot n).shadow = pre ++ x :: post)
    (first : ∀ y ∈ pre, ¬ (y.function = x.function ∧ y.offset = x.offset)) :
    b.deleteKey g n x.function x.offset = (b.removeRecord n pre.length).replayRecheck g n := by
  rw [Bridge.deleteKey, list, keyPosition_append_cons first]

include named

theorem deleteShadowRecord_fits (h : keyFits a) :
    deleteShadowRecord a g b
      = doneBridge g (b.deleteKey g n ((a.get 1).extractLsb' 0 3) ((a.get 2).extractLsb' 0 12)) :=
  (withSlot_of _ named).trans (if_pos ((keyFits_iff a).2 h))

theorem deleteShadowRecord_misfits (h : ¬ keyFits a) : deleteShadowRecord a g b = .refused .badArgument :=
  (withSlot_of _ named).trans (if_neg (mt (keyFits_iff a).1 h))

end Deletes

theorem shadowCommands : Parts.ShadowCommands := by
  intro s k a n named g b f o fits key done
  refine ⟨fun head fit absent => State.process_of head ?_,
    fun pre x post head fit list first held => State.process_of head ?_,
    fun head misfit => State.process_of head (deleteShadowRecord_misfits named misfit),
    fun head => State.process_of head (withSlot_of _ named), fun p => ?_⟩
  · rw [deleteShadowRecord_fits named fit, Bridge.deleteKey_absent fun x hx e => absent x hx ((key_iff fit x).2 e)]
    rfl
  · obtain ⟨function, offset⟩ := (key_iff fit x).1 held
    have before : ∀ y ∈ pre, ¬ (y.function = x.function ∧ y.offset = x.offset) := fun y hy e =>
      first y hy ((key_iff fit y).2 ⟨e.1.trans function, e.2.trans offset⟩)
    rw [deleteShadowRecord_fits named fit, ← function, ← offset, Bridge.deleteKey_held list before]
    rfl
  · rw [Bridge.removeRecord, Bridge.slot_modSlot_self]
    exact ⟨rfl, rfl⟩

/-! ### A replay after a change of its list (R160) -/

theorem Bridge.replayRecheck_due {b : Bridge} {g : Settings} {n : SlotId} {r : Replay} {t : Time}
    (hs : (b.slot n).stage = .restoring r) (ha : r.activity = .issueWait t) (first : r.retryCount = 0)
    (last : (b.slot n).shadow.length ≤ r.cursor) : b.replayRecheck g n = b.replayNext g n := by
  unfold Bridge.replayRecheck
  rw [hs]
  dsimp only
  rw [ha]
  exact if_pos ⟨first, last⟩

theorem Bridge.replayRecheck_not_due {b : Bridge} {g : Settings} {n : SlotId}
    (h : ∀ r, ¬ ((b.slot n).stage = .restoring r ∧ (∃ t, r.activity = .issueWait t) ∧ r.retryCount = 0 ∧
      (b.slot n).shadow.length ≤ r.cursor)) : b.replayRecheck g n = b := by
  unfold Bridge.replayRecheck
  split
  · rename_i r hs
    split
    · rename_i t ha
      exact if_neg fun ⟨first, last⟩ => h r ⟨hs, ⟨t, ha⟩, first, last⟩
    all_goals rfl
  · rfl

theorem replayRechecked : Parts.ReplayRechecked := by
  intro b g n ended barred due
  refine ⟨fun r ⟨hs, ⟨t, ha⟩, first, last⟩ h => ?_, fun r ⟨hs, ⟨t, ha⟩, first, last⟩ h => ?_,
    Bridge.replayRecheck_not_due⟩
  · exact (Bridge.replayRecheck_due hs ha first last).trans (Bridge.replayNext_barred hs h)
  · exact (Bridge.replayRecheck_due hs ha first last).trans (Bridge.replayNext_done hs h last)

/-! ### Faults, alerts and the error log (R47, R103, R175, R182, R183) -/

theorem clearFaultsAndAlerts : Parts.ClearFaultsAndAlerts := fun _ _ _ _ named =>
  ⟨fun head => State.process_of head (withSlot_of _ named), fun head => State.process_of head (withSlot_of _ named)⟩

theorem OrtWord.reclaimed_eq (w : OrtWord) :
    w.reclaimed = if w.status.isLost = true then { w with status := .free } else w := by
  unfold OrtWord.reclaimed
  cases w.status <;> rfl

theorem errorLogCommands : Parts.ErrorLogCommands := by
  intro s k a g b done
  refine ⟨fun head => State.process_of head rfl, fun head => State.process_of head rfl, fun e => rfl,
    fun head => ⟨b.ort.map OrtWord.reclaimed, State.process_of head rfl, fun i => ?_⟩⟩
  rw [Vector.get_map]
  exact OrtWord.reclaimed_eq _

theorem countWord_fields (l : ErrorLog) :
    hasField l.countWord 0 8 l.overflow ∧ l.countWord.getLsbD 8 = l.announced ∧ hasField l.countWord 9 7 0 ∧
      hasField l.countWord 16 16 l.corrected := by
  simp [hasField, ErrorLog.countWord]

theorem errorLogWords : Parts.ErrorLogWords := by
  intro l
  obtain ⟨overflow, announced, gap, corrected⟩ := countWord_fields l
  cases h : l.latched with
  | none =>
    have words : l.words = [0, 0, 0, l.countWord] := by rw [ErrorLog.words, h]
    exact ⟨_, _, _, _, words, overflow, announced, gap, corrected, fun _ => ⟨rfl, rfl, rfl⟩, nofun⟩
  | some e =>
    have words : l.words = e.words ++ [l.countWord] := by rw [ErrorLog.words, h]
    rw [words, Latched.words]
    cases word : e.word with
    | ort index =>
      refine ⟨_, _, _, _, rfl, overflow, announced, gap, corrected, nofun, fun x hx => ?_⟩
      cases hx
      rw [word]
      simp [hasField]
    | shadow number function offset =>
      refine ⟨_, _, _, _, rfl, overflow, announced, gap, corrected, nofun, fun x hx => ?_⟩
      cases hx
      rw [word]
      simp [hasField]

/-- Settles O60: each command is its change of the bridge, and what is deleted is the first record of the key named. -/
theorem clearingCommands : Obligations.ClearingCommands :=
  ⟨shadowCommands, replayRechecked, clearFaultsAndAlerts, errorLogCommands, errorLogWords⟩

end Sys2Proof.Machine
end
